-- ==== Sys2Proof/Word.lean ====
section
/-! DEFINITION. The word types of the R4300i block (spec R5, R6): a byte, a halfword, a 32-bit word, a 64-bit
doubleword, a 5-bit register number, and the two widenings of R7. -/

namespace Sys2Proof

/-- One byte of memory (R80). -/
abbrev Byte := BitVec 8
/-- A 16-bit halfword, and the width of every immediate field (R131). -/
abbrev Half := BitVec 16
/-- A 32-bit word: virtual addresses, instruction words, COP0 registers, single-precision values. -/
abbrev Word := BitVec 32
/-- A 64-bit doubleword: general registers, `hi`, `lo`, floating-point registers. -/
abbrev Dword := BitVec 64
/-- The 5-bit number of a general register, a COP0 register or a floating-point register (R21, R30, R55). -/
abbrev RegNum := BitVec 5

/-- `v[31:0]` of a doubleword (R6). -/
abbrev low32 (v : Dword) : Word := v.setWidth 32

/-- `sext_64` of a word (R7). -/
abbrev sext64 (v : Word) : Dword := v.signExtend 64

/-- `zext_64` of a word (R7). -/
abbrev zext64 (v : Word) : Dword := v.setWidth 64

end Sys2Proof
end

