-- ==== Sys2Proof/Syntax.lean ====
section
/-! DEFINITION. The instructions: one constructor for each of the 205 rows of spec/opcode_table.json, its operands the fields
the row names, in the row's order. Bits the decoder ignores (R148) are no operand. Register numbers, immediates and targets are
bit vectors of the field's width; a shift amount and a CACHE operation are numbers, bounded in WellFormed. -/

namespace Sys2Proof

/-- An instruction of the block (R147). -/
inductive Instr where
  -- immediate and three-register arithmetic, logic, comparison and shifts (40_integer_alu.md)
  /-- ADDI (R203) -/
  | addi (rs : RegNum) (rt : RegNum) (imm : Half)
  /-- ADDIU (R204) -/
  | addiu (rs : RegNum) (rt : RegNum) (imm : Half)
  /-- SLTI (R205) -/
  | slti (rs : RegNum) (rt : RegNum) (imm : Half)
  /-- SLTIU (R206) -/
  | sltiu (rs : RegNum) (rt : RegNum) (imm : Half)
  /-- ANDI (R207) -/
  | andi (rs : RegNum) (rt : RegNum) (imm : Half)
  /-- ORI (R208) -/
  | ori (rs : RegNum) (rt : RegNum) (imm : Half)
  /-- XORI (R209) -/
  | xori (rs : RegNum) (rt : RegNum) (imm : Half)
  /-- LUI (R210) -/
  | lui (rt : RegNum) (imm : Half)
  /-- DADDI (R211) -/
  | daddi (rs : RegNum) (rt : RegNum) (imm : Half)
  /-- DADDIU (R212) -/
  | daddiu (rs : RegNum) (rt : RegNum) (imm : Half)
  /-- ADD (R213) -/
  | add (rs : RegNum) (rt : RegNum) (rd : RegNum)
  /-- ADDU (R214) -/
  | addu (rs : RegNum) (rt : RegNum) (rd : RegNum)
  /-- SUB (R215) -/
  | sub (rs : RegNum) (rt : RegNum) (rd : RegNum)
  /-- SUBU (R216) -/
  | subu (rs : RegNum) (rt : RegNum) (rd : RegNum)
  /-- AND (R217) -/
  | and (rs : RegNum) (rt : RegNum) (rd : RegNum)
  /-- OR (R218) -/
  | or (rs : RegNum) (rt : RegNum) (rd : RegNum)
  /-- XOR (R219) -/
  | xor (rs : RegNum) (rt : RegNum) (rd : RegNum)
  /-- NOR (R220) -/
  | nor (rs : RegNum) (rt : RegNum) (rd : RegNum)
  /-- SLT (R221) -/
  | slt (rs : RegNum) (rt : RegNum) (rd : RegNum)
  /-- SLTU (R222) -/
  | sltu (rs : RegNum) (rt : RegNum) (rd : RegNum)
  /-- DADD (R223) -/
  | dadd (rs : RegNum) (rt : RegNum) (rd : RegNum)
  /-- DADDU (R224) -/
  | daddu (rs : RegNum) (rt : RegNum) (rd : RegNum)
  /-- DSUB (R225) -/
  | dsub (rs : RegNum) (rt : RegNum) (rd : RegNum)
  /-- DSUBU (R226) -/
  | dsubu (rs : RegNum) (rt : RegNum) (rd : RegNum)
  /-- SLL (R227) -/
  | sll (rt : RegNum) (rd : RegNum) (sa : Nat)
  /-- SRL (R228) -/
  | srl (rt : RegNum) (rd : RegNum) (sa : Nat)
  /-- SRA (R229) -/
  | sra (rt : RegNum) (rd : RegNum) (sa : Nat)
  /-- SLLV (R230) -/
  | sllv (rs : RegNum) (rt : RegNum) (rd : RegNum)
  /-- SRLV (R231) -/
  | srlv (rs : RegNum) (rt : RegNum) (rd : RegNum)
  /-- SRAV (R232) -/
  | srav (rs : RegNum) (rt : RegNum) (rd : RegNum)
  /-- DSLL (R233) -/
  | dsll (rt : RegNum) (rd : RegNum) (sa : Nat)
  /-- DSRL (R234) -/
  | dsrl (rt : RegNum) (rd : RegNum) (sa : Nat)
  /-- DSRA (R235) -/
  | dsra (rt : RegNum) (rd : RegNum) (sa : Nat)
  /-- DSLLV (R236) -/
  | dsllv (rs : RegNum) (rt : RegNum) (rd : RegNum)
  /-- DSRLV (R237) -/
  | dsrlv (rs : RegNum) (rt : RegNum) (rd : RegNum)
  /-- DSRAV (R238) -/
  | dsrav (rs : RegNum) (rt : RegNum) (rd : RegNum)
  /-- DSLL32 (R239) -/
  | dsll32 (rt : RegNum) (rd : RegNum) (sa : Nat)
  /-- DSRL32 (R240) -/
  | dsrl32 (rt : RegNum) (rd : RegNum) (sa : Nat)
  /-- DSRA32 (R241) -/
  | dsra32 (rt : RegNum) (rd : RegNum) (sa : Nat)
  -- multiply, divide, hi and lo (41_muldiv.md)
  /-- MFHI (R253) -/
  | mfhi (rd : RegNum)
  /-- MTHI (R254) -/
  | mthi (rs : RegNum)
  /-- MFLO (R255) -/
  | mflo (rd : RegNum)
  /-- MTLO (R256) -/
  | mtlo (rs : RegNum)
  /-- MULT (R257) -/
  | mult (rs : RegNum) (rt : RegNum)
  /-- MULTU (R258) -/
  | multu (rs : RegNum) (rt : RegNum)
  /-- DIV (R259) -/
  | div (rs : RegNum) (rt : RegNum)
  /-- DIVU (R260) -/
  | divu (rs : RegNum) (rt : RegNum)
  /-- DMULT (R261) -/
  | dmult (rs : RegNum) (rt : RegNum)
  /-- DMULTU (R262) -/
  | dmultu (rs : RegNum) (rt : RegNum)
  /-- DDIV (R263) -/
  | ddiv (rs : RegNum) (rt : RegNum)
  /-- DDIVU (R264) -/
  | ddivu (rs : RegNum) (rt : RegNum)
  -- loads, stores, unaligned access, LL and SC (42_loadstore.md)
  /-- LB (R271) -/
  | lb (rs : RegNum) (rt : RegNum) (imm : Half)
  /-- LBU (R272) -/
  | lbu (rs : RegNum) (rt : RegNum) (imm : Half)
  /-- LH (R273) -/
  | lh (rs : RegNum) (rt : RegNum) (imm : Half)
  /-- LHU (R274) -/
  | lhu (rs : RegNum) (rt : RegNum) (imm : Half)
  /-- LW (R275) -/
  | lw (rs : RegNum) (rt : RegNum) (imm : Half)
  /-- LWU (R276) -/
  | lwu (rs : RegNum) (rt : RegNum) (imm : Half)
  /-- LD (R277) -/
  | ld (rs : RegNum) (rt : RegNum) (imm : Half)
  /-- LWL (R278) -/
  | lwl (rs : RegNum) (rt : RegNum) (imm : Half)
  /-- LWR (R279) -/
  | lwr (rs : RegNum) (rt : RegNum) (imm : Half)
  /-- LDL (R280) -/
  | ldl (rs : RegNum) (rt : RegNum) (imm : Half)
  /-- LDR (R281) -/
  | ldr (rs : RegNum) (rt : RegNum) (imm : Half)
  /-- SB (R282) -/
  | sb (rs : RegNum) (rt : RegNum) (imm : Half)
  /-- SH (R283) -/
  | sh (rs : RegNum) (rt : RegNum) (imm : Half)
  /-- SW (R284) -/
  | sw (rs : RegNum) (rt : RegNum) (imm : Half)
  /-- SD (R285) -/
  | sd (rs : RegNum) (rt : RegNum) (imm : Half)
  /-- SWL (R286) -/
  | swl (rs : RegNum) (rt : RegNum) (imm : Half)
  /-- SWR (R287) -/
  | swr (rs : RegNum) (rt : RegNum) (imm : Half)
  /-- SDL (R288) -/
  | sdl (rs : RegNum) (rt : RegNum) (imm : Half)
  /-- SDR (R289) -/
  | sdr (rs : RegNum) (rt : RegNum) (imm : Half)
  /-- LL (R290) -/
  | ll (rs : RegNum) (rt : RegNum) (imm : Half)
  /-- LLD (R291) -/
  | lld (rs : RegNum) (rt : RegNum) (imm : Half)
  /-- SC (R292) -/
  | sc (rs : RegNum) (rt : RegNum) (imm : Half)
  /-- SCD (R293) -/
  | scd (rs : RegNum) (rt : RegNum) (imm : Half)
  -- jumps and branches (43_branch_jump.md)
  /-- J (R314) -/
  | j (target : BitVec 26)
  /-- JAL (R315) -/
  | jal (target : BitVec 26)
  /-- JR (R316) -/
  | jr (rs : RegNum)
  /-- JALR (R317) -/
  | jalr (rs : RegNum) (rd : RegNum)
  /-- BEQ (R318) -/
  | beq (rs : RegNum) (rt : RegNum) (imm : Half)
  /-- BNE (R319) -/
  | bne (rs : RegNum) (rt : RegNum) (imm : Half)
  /-- BLEZ (R320) -/
  | blez (rs : RegNum) (imm : Half)
  /-- BGTZ (R321) -/
  | bgtz (rs : RegNum) (imm : Half)
  /-- BEQL (R322) -/
  | beql (rs : RegNum) (rt : RegNum) (imm : Half)
  /-- BNEL (R323) -/
  | bnel (rs : RegNum) (rt : RegNum) (imm : Half)
  /-- BLEZL (R324) -/
  | blezl (rs : RegNum) (imm : Half)
  /-- BGTZL (R325) -/
  | bgtzl (rs : RegNum) (imm : Half)
  /-- BLTZ (R326) -/
  | bltz (rs : RegNum) (imm : Half)
  /-- BGEZ (R327) -/
  | bgez (rs : RegNum) (imm : Half)
  /-- BLTZL (R328) -/
  | bltzl (rs : RegNum) (imm : Half)
  /-- BGEZL (R329) -/
  | bgezl (rs : RegNum) (imm : Half)
  /-- BLTZAL (R330) -/
  | bltzal (rs : RegNum) (imm : Half)
  /-- BGEZAL (R331) -/
  | bgezal (rs : RegNum) (imm : Half)
  /-- BLTZALL (R332) -/
  | bltzall (rs : RegNum) (imm : Half)
  /-- BGEZALL (R333) -/
  | bgezall (rs : RegNum) (imm : Half)
  -- system call, breakpoint, barriers and traps (44_trap_system.md)
  /-- SYSCALL (R340) -/
  | syscall
  /-- BREAK (R341) -/
  | break_
  /-- SYNC (R342) -/
  | sync
  /-- CACHE (R343) -/
  | cache (base : RegNum) (op : Nat) (imm : Half)
  /-- TGE (R344) -/
  | tge (rs : RegNum) (rt : RegNum)
  /-- TGEU (R345) -/
  | tgeu (rs : RegNum) (rt : RegNum)
  /-- TLT (R346) -/
  | tlt (rs : RegNum) (rt : RegNum)
  /-- TLTU (R347) -/
  | tltu (rs : RegNum) (rt : RegNum)
  /-- TEQ (R348) -/
  | teq (rs : RegNum) (rt : RegNum)
  /-- TNE (R349) -/
  | tne (rs : RegNum) (rt : RegNum)
  /-- TGEI (R350) -/
  | tgei (rs : RegNum) (imm : Half)
  /-- TGEIU (R351) -/
  | tgeiu (rs : RegNum) (imm : Half)
  /-- TLTI (R352) -/
  | tlti (rs : RegNum) (imm : Half)
  /-- TLTIU (R353) -/
  | tltiu (rs : RegNum) (imm : Half)
  /-- TEQI (R354) -/
  | teqi (rs : RegNum) (imm : Half)
  /-- TNEI (R355) -/
  | tnei (rs : RegNum) (imm : Half)
  -- system control coprocessor (45_cop0.md)
  /-- MFC0 (R361) -/
  | mfc0 (rt : RegNum) (rd : RegNum)
  /-- MTC0 (R362) -/
  | mtc0 (rt : RegNum) (rd : RegNum)
  /-- TLBR (R363) -/
  | tlbr
  /-- TLBWI (R364) -/
  | tlbwi
  /-- TLBWR (R365) -/
  | tlbwr
  /-- TLBP (R366) -/
  | tlbp
  /-- ERET (R368) -/
  | eret
  -- floating-point moves, branches, loads and stores (46_cop1_move_branch.md)
  /-- MFC1 (R401) -/
  | mfc1 (rt : RegNum) (fs : RegNum)
  /-- DMFC1 (R402) -/
  | dmfc1 (rt : RegNum) (fs : RegNum)
  /-- CFC1 (R403) -/
  | cfc1 (rt : RegNum) (fs : RegNum)
  /-- MTC1 (R404) -/
  | mtc1 (rt : RegNum) (fs : RegNum)
  /-- DMTC1 (R405) -/
  | dmtc1 (rt : RegNum) (fs : RegNum)
  /-- CTC1 (R406) -/
  | ctc1 (rt : RegNum) (fs : RegNum)
  /-- BC1F (R407) -/
  | bc1f (imm : Half)
  /-- BC1T (R408) -/
  | bc1t (imm : Half)
  /-- BC1FL (R409) -/
  | bc1fl (imm : Half)
  /-- BC1TL (R410) -/
  | bc1tl (imm : Half)
  /-- LWC1 (R411) -/
  | lwc1 (base : RegNum) (ft : RegNum) (imm : Half)
  /-- LDC1 (R412) -/
  | ldc1 (base : RegNum) (ft : RegNum) (imm : Half)
  /-- SWC1 (R413) -/
  | swc1 (base : RegNum) (ft : RegNum) (imm : Half)
  /-- SDC1 (R414) -/
  | sdc1 (base : RegNum) (ft : RegNum) (imm : Half)
  -- floating-point arithmetic (47_cop1_arith.md)
  /-- ADD.S (R424) -/
  | addS (ft : RegNum) (fs : RegNum) (fd : RegNum)
  /-- ADD.D (R425) -/
  | addD (ft : RegNum) (fs : RegNum) (fd : RegNum)
  /-- SUB.S (R426) -/
  | subS (ft : RegNum) (fs : RegNum) (fd : RegNum)
  /-- SUB.D (R427) -/
  | subD (ft : RegNum) (fs : RegNum) (fd : RegNum)
  /-- MUL.S (R428) -/
  | mulS (ft : RegNum) (fs : RegNum) (fd : RegNum)
  /-- MUL.D (R429) -/
  | mulD (ft : RegNum) (fs : RegNum) (fd : RegNum)
  /-- DIV.S (R430) -/
  | divS (ft : RegNum) (fs : RegNum) (fd : RegNum)
  /-- DIV.D (R431) -/
  | divD (ft : RegNum) (fs : RegNum) (fd : RegNum)
  /-- SQRT.S (R432) -/
  | sqrtS (fs : RegNum) (fd : RegNum)
  /-- SQRT.D (R433) -/
  | sqrtD (fs : RegNum) (fd : RegNum)
  /-- ABS.S (R434) -/
  | absS (fs : RegNum) (fd : RegNum)
  /-- ABS.D (R435) -/
  | absD (fs : RegNum) (fd : RegNum)
  /-- MOV.S (R436) -/
  | movS (fs : RegNum) (fd : RegNum)
  /-- MOV.D (R437) -/
  | movD (fs : RegNum) (fd : RegNum)
  /-- NEG.S (R438) -/
  | negS (fs : RegNum) (fd : RegNum)
  /-- NEG.D (R439) -/
  | negD (fs : RegNum) (fd : RegNum)
  -- floating-point conversions (48_cop1_convert_compare.md)
  /-- ROUND.L.S (R455) -/
  | roundLS (fs : RegNum) (fd : RegNum)
  /-- ROUND.L.D (R456) -/
  | roundLD (fs : RegNum) (fd : RegNum)
  /-- TRUNC.L.S (R457) -/
  | truncLS (fs : RegNum) (fd : RegNum)
  /-- TRUNC.L.D (R458) -/
  | truncLD (fs : RegNum) (fd : RegNum)
  /-- CEIL.L.S (R459) -/
  | ceilLS (fs : RegNum) (fd : RegNum)
  /-- CEIL.L.D (R460) -/
  | ceilLD (fs : RegNum) (fd : RegNum)
  /-- FLOOR.L.S (R461) -/
  | floorLS (fs : RegNum) (fd : RegNum)
  /-- FLOOR.L.D (R462) -/
  | floorLD (fs : RegNum) (fd : RegNum)
  /-- ROUND.W.S (R463) -/
  | roundWS (fs : RegNum) (fd : RegNum)
  /-- ROUND.W.D (R464) -/
  | roundWD (fs : RegNum) (fd : RegNum)
  /-- TRUNC.W.S (R465) -/
  | truncWS (fs : RegNum) (fd : RegNum)
  /-- TRUNC.W.D (R466) -/
  | truncWD (fs : RegNum) (fd : RegNum)
  /-- CEIL.W.S (R467) -/
  | ceilWS (fs : RegNum) (fd : RegNum)
  /-- CEIL.W.D (R468) -/
  | ceilWD (fs : RegNum) (fd : RegNum)
  /-- FLOOR.W.S (R469) -/
  | floorWS (fs : RegNum) (fd : RegNum)
  /-- FLOOR.W.D (R470) -/
  | floorWD (fs : RegNum) (fd : RegNum)
  /-- CVT.S.D (R471) -/
  | cvtSD (fs : RegNum) (fd : RegNum)
  /-- CVT.S.W (R472) -/
  | cvtSW (fs : RegNum) (fd : RegNum)
  /-- CVT.S.L (R473) -/
  | cvtSL (fs : RegNum) (fd : RegNum)
  /-- CVT.D.S (R474) -/
  | cvtDS (fs : RegNum) (fd : RegNum)
  /-- CVT.D.W (R475) -/
  | cvtDW (fs : RegNum) (fd : RegNum)
  /-- CVT.D.L (R476) -/
  | cvtDL (fs : RegNum) (fd : RegNum)
  /-- CVT.W.S (R477) -/
  | cvtWS (fs : RegNum) (fd : RegNum)
  /-- CVT.W.D (R478) -/
  | cvtWD (fs : RegNum) (fd : RegNum)
  /-- CVT.L.S (R479) -/
  | cvtLS (fs : RegNum) (fd : RegNum)
  /-- CVT.L.D (R480) -/
  | cvtLD (fs : RegNum) (fd : RegNum)
  -- floating-point compares (49_cop1_compare.md)
  /-- C.F.S (R481) -/
  | cFS (ft : RegNum) (fs : RegNum)
  /-- C.F.D (R482) -/
  | cFD (ft : RegNum) (fs : RegNum)
  /-- C.UN.S (R483) -/
  | cUnS (ft : RegNum) (fs : RegNum)
  /-- C.UN.D (R484) -/
  | cUnD (ft : RegNum) (fs : RegNum)
  /-- C.EQ.S (R485) -/
  | cEqS (ft : RegNum) (fs : RegNum)
  /-- C.EQ.D (R486) -/
  | cEqD (ft : RegNum) (fs : RegNum)
  /-- C.UEQ.S (R487) -/
  | cUeqS (ft : RegNum) (fs : RegNum)
  /-- C.UEQ.D (R488) -/
  | cUeqD (ft : RegNum) (fs : RegNum)
  /-- C.OLT.S (R489) -/
  | cOltS (ft : RegNum) (fs : RegNum)
  /-- C.OLT.D (R490) -/
  | cOltD (ft : RegNum) (fs : RegNum)
  /-- C.ULT.S (R491) -/
  | cUltS (ft : RegNum) (fs : RegNum)
  /-- C.ULT.D (R492) -/
  | cUltD (ft : RegNum) (fs : RegNum)
  /-- C.OLE.S (R493) -/
  | cOleS (ft : RegNum) (fs : RegNum)
  /-- C.OLE.D (R494) -/
  | cOleD (ft : RegNum) (fs : RegNum)
  /-- C.ULE.S (R495) -/
  | cUleS (ft : RegNum) (fs : RegNum)
  /-- C.ULE.D (R496) -/
  | cUleD (ft : RegNum) (fs : RegNum)
  /-- C.SF.S (R497) -/
  | cSfS (ft : RegNum) (fs : RegNum)
  /-- C.SF.D (R498) -/
  | cSfD (ft : RegNum) (fs : RegNum)
  /-- C.NGLE.S (R499) -/
  | cNgleS (ft : RegNum) (fs : RegNum)
  /-- C.NGLE.D (R500) -/
  | cNgleD (ft : RegNum) (fs : RegNum)
  /-- C.SEQ.S (R501) -/
  | cSeqS (ft : RegNum) (fs : RegNum)
  /-- C.SEQ.D (R502) -/
  | cSeqD (ft : RegNum) (fs : RegNum)
  /-- C.NGL.S (R503) -/
  | cNglS (ft : RegNum) (fs : RegNum)
  /-- C.NGL.D (R504) -/
  | cNglD (ft : RegNum) (fs : RegNum)
  /-- C.LT.S (R505) -/
  | cLtS (ft : RegNum) (fs : RegNum)
  /-- C.LT.D (R506) -/
  | cLtD (ft : RegNum) (fs : RegNum)
  /-- C.NGE.S (R507) -/
  | cNgeS (ft : RegNum) (fs : RegNum)
  /-- C.NGE.D (R508) -/
  | cNgeD (ft : RegNum) (fs : RegNum)
  /-- C.LE.S (R509) -/
  | cLeS (ft : RegNum) (fs : RegNum)
  /-- C.LE.D (R510) -/
  | cLeD (ft : RegNum) (fs : RegNum)
  /-- C.NGT.S (R511) -/
  | cNgtS (ft : RegNum) (fs : RegNum)
  /-- C.NGT.D (R512) -/
  | cNgtD (ft : RegNum) (fs : RegNum)
deriving DecidableEq, Repr

end Sys2Proof
end

