-- ==== Sys2Proof/Decode.lean ====
section
/-! DEFINITION. Decoding an instruction word (R131, R147 to R150), total and by name, and after it the encoder, written from the
same formats (R132 to R141). Bits a row ignores (R148) are not looked at; the encoder writes them as zeros (log 25). -/

namespace Sys2Proof

/-- Why a word is no instruction: the reserved encodings of R150, by the table that finds them. -/
inductive DecodeError where
  /-- fewer than four bytes -/
  | tooShort
  /-- a reserved major opcode -/
  | reservedMajor (op : BitVec 6)
  /-- a reserved SPECIAL function -/
  | reservedSpecial (funct : BitVec 6)
  /-- a reserved REGIMM selector -/
  | reservedRegimm (sel : BitVec 5)
  /-- a reserved COP0 subcode (DMFC0 and DMTC0 among them, R367) -/
  | reservedCop0 (sub : BitVec 5)
  /-- a reserved COP0 function (WAIT among them, R571) -/
  | reservedCop0Function (funct : BitVec 6)
  /-- a reserved COP1 subcode -/
  | reservedCop1 (sub : BitVec 5)
  /-- a reserved COP1 branch selector -/
  | reservedCop1Branch (sel : BitVec 5)
  /-- a reserved pair of COP1 format and function -/
  | reservedCop1Function (fmt : BitVec 5) (funct : BitVec 6)
deriving DecidableEq, Repr

/-- What decoding a word gives. -/
abbrev Decoded := Except DecodeError Instr

/-- `w[31:26]`, the major opcode (R131). -/
def fieldOpcode (w : Word) : BitVec 6 := w.extractLsb' 26 6
/-- `w[25:21]`: `rs`, `base`, `fmt`, `sub` (R131). -/
def fieldRs (w : Word) : BitVec 5 := w.extractLsb' 21 5
/-- `w[20:16]`: `rt`, `ft`, selector (R131). -/
def fieldRt (w : Word) : BitVec 5 := w.extractLsb' 16 5
/-- `w[15:11]`: `rd`, `fs` (R131). -/
def fieldRd (w : Word) : BitVec 5 := w.extractLsb' 11 5
/-- `w[10:6]`: `sa`, `fd` (R131). -/
def fieldSa (w : Word) : BitVec 5 := w.extractLsb' 6 5
/-- `w[5:0]`: `funct` (R131). -/
def fieldFunct (w : Word) : BitVec 6 := w.extractLsb' 0 6
/-- `w[15:0]`: `imm16`, `offset` (R131). -/
def fieldImm (w : Word) : Half := w.extractLsb' 0 16
/-- `w[25:0]`: `target26` (R131). -/
def fieldTarget (w : Word) : BitVec 26 := w.extractLsb' 0 26

/-- Step 2 for SPECIAL (R147): `funct` = `w[5:0]`. -/
def decodeSpecial (w : Word) : Decoded :=
  match (fieldFunct w).toNat with
  | 0 => .ok (.sll (fieldRt w) (fieldRd w) (fieldSa w).toNat)
  | 2 => .ok (.srl (fieldRt w) (fieldRd w) (fieldSa w).toNat)
  | 3 => .ok (.sra (fieldRt w) (fieldRd w) (fieldSa w).toNat)
  | 4 => .ok (.sllv (fieldRs w) (fieldRt w) (fieldRd w))
  | 6 => .ok (.srlv (fieldRs w) (fieldRt w) (fieldRd w))
  | 7 => .ok (.srav (fieldRs w) (fieldRt w) (fieldRd w))
  | 8 => .ok (.jr (fieldRs w))
  | 9 => .ok (.jalr (fieldRs w) (fieldRd w))
  | 12 => .ok .syscall
  | 13 => .ok .break_
  | 15 => .ok .sync
  | 16 => .ok (.mfhi (fieldRd w))
  | 17 => .ok (.mthi (fieldRs w))
  | 18 => .ok (.mflo (fieldRd w))
  | 19 => .ok (.mtlo (fieldRs w))
  | 20 => .ok (.dsllv (fieldRs w) (fieldRt w) (fieldRd w))
  | 22 => .ok (.dsrlv (fieldRs w) (fieldRt w) (fieldRd w))
  | 23 => .ok (.dsrav (fieldRs w) (fieldRt w) (fieldRd w))
  | 24 => .ok (.mult (fieldRs w) (fieldRt w))
  | 25 => .ok (.multu (fieldRs w) (fieldRt w))
  | 26 => .ok (.div (fieldRs w) (fieldRt w))
  | 27 => .ok (.divu (fieldRs w) (fieldRt w))
  | 28 => .ok (.dmult (fieldRs w) (fieldRt w))
  | 29 => .ok (.dmultu (fieldRs w) (fieldRt w))
  | 30 => .ok (.ddiv (fieldRs w) (fieldRt w))
  | 31 => .ok (.ddivu (fieldRs w) (fieldRt w))
  | 32 => .ok (.add (fieldRs w) (fieldRt w) (fieldRd w))
  | 33 => .ok (.addu (fieldRs w) (fieldRt w) (fieldRd w))
  | 34 => .ok (.sub (fieldRs w) (fieldRt w) (fieldRd w))
  | 35 => .ok (.subu (fieldRs w) (fieldRt w) (fieldRd w))
  | 36 => .ok (.and (fieldRs w) (fieldRt w) (fieldRd w))
  | 37 => .ok (.or (fieldRs w) (fieldRt w) (fieldRd w))
  | 38 => .ok (.xor (fieldRs w) (fieldRt w) (fieldRd w))
  | 39 => .ok (.nor (fieldRs w) (fieldRt w) (fieldRd w))
  | 42 => .ok (.slt (fieldRs w) (fieldRt w) (fieldRd w))
  | 43 => .ok (.sltu (fieldRs w) (fieldRt w) (fieldRd w))
  | 44 => .ok (.dadd (fieldRs w) (fieldRt w) (fieldRd w))
  | 45 => .ok (.daddu (fieldRs w) (fieldRt w) (fieldRd w))
  | 46 => .ok (.dsub (fieldRs w) (fieldRt w) (fieldRd w))
  | 47 => .ok (.dsubu (fieldRs w) (fieldRt w) (fieldRd w))
  | 48 => .ok (.tge (fieldRs w) (fieldRt w))
  | 49 => .ok (.tgeu (fieldRs w) (fieldRt w))
  | 50 => .ok (.tlt (fieldRs w) (fieldRt w))
  | 51 => .ok (.tltu (fieldRs w) (fieldRt w))
  | 52 => .ok (.teq (fieldRs w) (fieldRt w))
  | 54 => .ok (.tne (fieldRs w) (fieldRt w))
  | 56 => .ok (.dsll (fieldRt w) (fieldRd w) (fieldSa w).toNat)
  | 58 => .ok (.dsrl (fieldRt w) (fieldRd w) (fieldSa w).toNat)
  | 59 => .ok (.dsra (fieldRt w) (fieldRd w) (fieldSa w).toNat)
  | 60 => .ok (.dsll32 (fieldRt w) (fieldRd w) (fieldSa w).toNat)
  | 62 => .ok (.dsrl32 (fieldRt w) (fieldRd w) (fieldSa w).toNat)
  | 63 => .ok (.dsra32 (fieldRt w) (fieldRd w) (fieldSa w).toNat)
  | _ => .error (.reservedSpecial (fieldFunct w))

/-- Step 2 for REGIMM (R147): `w[20:16]`. -/
def decodeRegimm (w : Word) : Decoded :=
  match (fieldRt w).toNat with
  | 0 => .ok (.bltz (fieldRs w) (fieldImm w))
  | 1 => .ok (.bgez (fieldRs w) (fieldImm w))
  | 2 => .ok (.bltzl (fieldRs w) (fieldImm w))
  | 3 => .ok (.bgezl (fieldRs w) (fieldImm w))
  | 8 => .ok (.tgei (fieldRs w) (fieldImm w))
  | 9 => .ok (.tgeiu (fieldRs w) (fieldImm w))
  | 10 => .ok (.tlti (fieldRs w) (fieldImm w))
  | 11 => .ok (.tltiu (fieldRs w) (fieldImm w))
  | 12 => .ok (.teqi (fieldRs w) (fieldImm w))
  | 14 => .ok (.tnei (fieldRs w) (fieldImm w))
  | 16 => .ok (.bltzal (fieldRs w) (fieldImm w))
  | 17 => .ok (.bgezal (fieldRs w) (fieldImm w))
  | 18 => .ok (.bltzall (fieldRs w) (fieldImm w))
  | 19 => .ok (.bgezall (fieldRs w) (fieldImm w))
  | _ => .error (.reservedRegimm (fieldRt w))

/-- Step 3 for COP0 with `w[25:21]` = 16 (R147). -/
def decodeCop0Function (w : Word) : Decoded :=
  match (fieldFunct w).toNat with
  | 1 => .ok .tlbr
  | 2 => .ok .tlbwi
  | 6 => .ok .tlbwr
  | 8 => .ok .tlbp
  | 24 => .ok .eret
  | _ => .error (.reservedCop0Function (fieldFunct w))

/-- Step 2 for COP0 (R147): `w[25:21]`. -/
def decodeCop0 (w : Word) : Decoded :=
  match (fieldRs w).toNat with
  | 0 => .ok (.mfc0 (fieldRt w) (fieldRd w))
  | 4 => .ok (.mtc0 (fieldRt w) (fieldRd w))
  | 16 => decodeCop0Function w
  | _ => .error (.reservedCop0 (fieldRs w))

/-- Step 3 for COP1 branches (R147): `w[20:16]`. -/
def decodeCop1Branch (w : Word) : Decoded :=
  match (fieldRt w).toNat with
  | 0 => .ok (.bc1f (fieldImm w))
  | 1 => .ok (.bc1t (fieldImm w))
  | 2 => .ok (.bc1fl (fieldImm w))
  | 3 => .ok (.bc1tl (fieldImm w))
  | _ => .error (.reservedCop1Branch (fieldRt w))

/-- Step 3 for COP1 with `fmt` = 16 (R147). -/
def decodeCop1Single (w : Word) : Decoded :=
  match (fieldFunct w).toNat with
  | 0 => .ok (.addS (fieldRt w) (fieldRd w) (fieldSa w))
  | 1 => .ok (.subS (fieldRt w) (fieldRd w) (fieldSa w))
  | 2 => .ok (.mulS (fieldRt w) (fieldRd w) (fieldSa w))
  | 3 => .ok (.divS (fieldRt w) (fieldRd w) (fieldSa w))
  | 4 => .ok (.sqrtS (fieldRd w) (fieldSa w))
  | 5 => .ok (.absS (fieldRd w) (fieldSa w))
  | 6 => .ok (.movS (fieldRd w) (fieldSa w))
  | 7 => .ok (.negS (fieldRd w) (fieldSa w))
  | 8 => .ok (.roundLS (fieldRd w) (fieldSa w))
  | 9 => .ok (.truncLS (fieldRd w) (fieldSa w))
  | 10 => .ok (.ceilLS (fieldRd w) (fieldSa w))
  | 11 => .ok (.floorLS (fieldRd w) (fieldSa w))
  | 12 => .ok (.roundWS (fieldRd w) (fieldSa w))
  | 13 => .ok (.truncWS (fieldRd w) (fieldSa w))
  | 14 => .ok (.ceilWS (fieldRd w) (fieldSa w))
  | 15 => .ok (.floorWS (fieldRd w) (fieldSa w))
  | 33 => .ok (.cvtDS (fieldRd w) (fieldSa w))
  | 36 => .ok (.cvtWS (fieldRd w) (fieldSa w))
  | 37 => .ok (.cvtLS (fieldRd w) (fieldSa w))
  | 48 => .ok (.cFS (fieldRt w) (fieldRd w))
  | 49 => .ok (.cUnS (fieldRt w) (fieldRd w))
  | 50 => .ok (.cEqS (fieldRt w) (fieldRd w))
  | 51 => .ok (.cUeqS (fieldRt w) (fieldRd w))
  | 52 => .ok (.cOltS (fieldRt w) (fieldRd w))
  | 53 => .ok (.cUltS (fieldRt w) (fieldRd w))
  | 54 => .ok (.cOleS (fieldRt w) (fieldRd w))
  | 55 => .ok (.cUleS (fieldRt w) (fieldRd w))
  | 56 => .ok (.cSfS (fieldRt w) (fieldRd w))
  | 57 => .ok (.cNgleS (fieldRt w) (fieldRd w))
  | 58 => .ok (.cSeqS (fieldRt w) (fieldRd w))
  | 59 => .ok (.cNglS (fieldRt w) (fieldRd w))
  | 60 => .ok (.cLtS (fieldRt w) (fieldRd w))
  | 61 => .ok (.cNgeS (fieldRt w) (fieldRd w))
  | 62 => .ok (.cLeS (fieldRt w) (fieldRd w))
  | 63 => .ok (.cNgtS (fieldRt w) (fieldRd w))
  | _ => .error (.reservedCop1Function (fieldRs w) (fieldFunct w))

/-- Step 3 for COP1 with `fmt` = 17 (R147). -/
def decodeCop1Double (w : Word) : Decoded :=
  match (fieldFunct w).toNat with
  | 0 => .ok (.addD (fieldRt w) (fieldRd w) (fieldSa w))
  | 1 => .ok (.subD (fieldRt w) (fieldRd w) (fieldSa w))
  | 2 => .ok (.mulD (fieldRt w) (fieldRd w) (fieldSa w))
  | 3 => .ok (.divD (fieldRt w) (fieldRd w) (fieldSa w))
  | 4 => .ok (.sqrtD (fieldRd w) (fieldSa w))
  | 5 => .ok (.absD (fieldRd w) (fieldSa w))
  | 6 => .ok (.movD (fieldRd w) (fieldSa w))
  | 7 => .ok (.negD (fieldRd w) (fieldSa w))
  | 8 => .ok (.roundLD (fieldRd w) (fieldSa w))
  | 9 => .ok (.truncLD (fieldRd w) (fieldSa w))
  | 10 => .ok (.ceilLD (fieldRd w) (fieldSa w))
  | 11 => .ok (.floorLD (fieldRd w) (fieldSa w))
  | 12 => .ok (.roundWD (fieldRd w) (fieldSa w))
  | 13 => .ok (.truncWD (fieldRd w) (fieldSa w))
  | 14 => .ok (.ceilWD (fieldRd w) (fieldSa w))
  | 15 => .ok (.floorWD (fieldRd w) (fieldSa w))
  | 32 => .ok (.cvtSD (fieldRd w) (fieldSa w))
  | 36 => .ok (.cvtWD (fieldRd w) (fieldSa w))
  | 37 => .ok (.cvtLD (fieldRd w) (fieldSa w))
  | 48 => .ok (.cFD (fieldRt w) (fieldRd w))
  | 49 => .ok (.cUnD (fieldRt w) (fieldRd w))
  | 50 => .ok (.cEqD (fieldRt w) (fieldRd w))
  | 51 => .ok (.cUeqD (fieldRt w) (fieldRd w))
  | 52 => .ok (.cOltD (fieldRt w) (fieldRd w))
  | 53 => .ok (.cUltD (fieldRt w) (fieldRd w))
  | 54 => .ok (.cOleD (fieldRt w) (fieldRd w))
  | 55 => .ok (.cUleD (fieldRt w) (fieldRd w))
  | 56 => .ok (.cSfD (fieldRt w) (fieldRd w))
  | 57 => .ok (.cNgleD (fieldRt w) (fieldRd w))
  | 58 => .ok (.cSeqD (fieldRt w) (fieldRd w))
  | 59 => .ok (.cNglD (fieldRt w) (fieldRd w))
  | 60 => .ok (.cLtD (fieldRt w) (fieldRd w))
  | 61 => .ok (.cNgeD (fieldRt w) (fieldRd w))
  | 62 => .ok (.cLeD (fieldRt w) (fieldRd w))
  | 63 => .ok (.cNgtD (fieldRt w) (fieldRd w))
  | _ => .error (.reservedCop1Function (fieldRs w) (fieldFunct w))

/-- Step 3 for COP1 with `fmt` = 20 (R147). -/
def decodeCop1Word (w : Word) : Decoded :=
  match (fieldFunct w).toNat with
  | 32 => .ok (.cvtSW (fieldRd w) (fieldSa w))
  | 33 => .ok (.cvtDW (fieldRd w) (fieldSa w))
  | _ => .error (.reservedCop1Function (fieldRs w) (fieldFunct w))

/-- Step 3 for COP1 with `fmt` = 21 (R147). -/
def decodeCop1Long (w : Word) : Decoded :=
  match (fieldFunct w).toNat with
  | 32 => .ok (.cvtSL (fieldRd w) (fieldSa w))
  | 33 => .ok (.cvtDL (fieldRd w) (fieldSa w))
  | _ => .error (.reservedCop1Function (fieldRs w) (fieldFunct w))

/-- Step 2 for COP1 (R147): `w[25:21]`. -/
def decodeCop1 (w : Word) : Decoded :=
  match (fieldRs w).toNat with
  | 0 => .ok (.mfc1 (fieldRt w) (fieldRd w))
  | 1 => .ok (.dmfc1 (fieldRt w) (fieldRd w))
  | 2 => .ok (.cfc1 (fieldRt w) (fieldRd w))
  | 4 => .ok (.mtc1 (fieldRt w) (fieldRd w))
  | 5 => .ok (.dmtc1 (fieldRt w) (fieldRd w))
  | 6 => .ok (.ctc1 (fieldRt w) (fieldRd w))
  | 8 => decodeCop1Branch w
  | 16 => decodeCop1Single w
  | 17 => decodeCop1Double w
  | 20 => decodeCop1Word w
  | 21 => decodeCop1Long w
  | _ => .error (.reservedCop1 (fieldRs w))

/-- Step 1 of decode (R147): the major opcode `w[31:26]`. Every word is an instruction or reserved by name. -/
def decodeWord (w : Word) : Decoded :=
  match (fieldOpcode w).toNat with
  | 0 => decodeSpecial w
  | 1 => decodeRegimm w
  | 2 => .ok (.j (fieldTarget w))
  | 3 => .ok (.jal (fieldTarget w))
  | 4 => .ok (.beq (fieldRs w) (fieldRt w) (fieldImm w))
  | 5 => .ok (.bne (fieldRs w) (fieldRt w) (fieldImm w))
  | 6 => .ok (.blez (fieldRs w) (fieldImm w))
  | 7 => .ok (.bgtz (fieldRs w) (fieldImm w))
  | 8 => .ok (.addi (fieldRs w) (fieldRt w) (fieldImm w))
  | 9 => .ok (.addiu (fieldRs w) (fieldRt w) (fieldImm w))
  | 10 => .ok (.slti (fieldRs w) (fieldRt w) (fieldImm w))
  | 11 => .ok (.sltiu (fieldRs w) (fieldRt w) (fieldImm w))
  | 12 => .ok (.andi (fieldRs w) (fieldRt w) (fieldImm w))
  | 13 => .ok (.ori (fieldRs w) (fieldRt w) (fieldImm w))
  | 14 => .ok (.xori (fieldRs w) (fieldRt w) (fieldImm w))
  | 15 => .ok (.lui (fieldRt w) (fieldImm w))
  | 16 => decodeCop0 w
  | 17 => decodeCop1 w
  | 20 => .ok (.beql (fieldRs w) (fieldRt w) (fieldImm w))
  | 21 => .ok (.bnel (fieldRs w) (fieldRt w) (fieldImm w))
  | 22 => .ok (.blezl (fieldRs w) (fieldImm w))
  | 23 => .ok (.bgtzl (fieldRs w) (fieldImm w))
  | 24 => .ok (.daddi (fieldRs w) (fieldRt w) (fieldImm w))
  | 25 => .ok (.daddiu (fieldRs w) (fieldRt w) (fieldImm w))
  | 26 => .ok (.ldl (fieldRs w) (fieldRt w) (fieldImm w))
  | 27 => .ok (.ldr (fieldRs w) (fieldRt w) (fieldImm w))
  | 32 => .ok (.lb (fieldRs w) (fieldRt w) (fieldImm w))
  | 33 => .ok (.lh (fieldRs w) (fieldRt w) (fieldImm w))
  | 34 => .ok (.lwl (fieldRs w) (fieldRt w) (fieldImm w))
  | 35 => .ok (.lw (fieldRs w) (fieldRt w) (fieldImm w))
  | 36 => .ok (.lbu (fieldRs w) (fieldRt w) (fieldImm w))
  | 37 => .ok (.lhu (fieldRs w) (fieldRt w) (fieldImm w))
  | 38 => .ok (.lwr (fieldRs w) (fieldRt w) (fieldImm w))
  | 39 => .ok (.lwu (fieldRs w) (fieldRt w) (fieldImm w))
  | 40 => .ok (.sb (fieldRs w) (fieldRt w) (fieldImm w))
  | 41 => .ok (.sh (fieldRs w) (fieldRt w) (fieldImm w))
  | 42 => .ok (.swl (fieldRs w) (fieldRt w) (fieldImm w))
  | 43 => .ok (.sw (fieldRs w) (fieldRt w) (fieldImm w))
  | 44 => .ok (.sdl (fieldRs w) (fieldRt w) (fieldImm w))
  | 45 => .ok (.sdr (fieldRs w) (fieldRt w) (fieldImm w))
  | 46 => .ok (.swr (fieldRs w) (fieldRt w) (fieldImm w))
  | 47 => .ok (.cache (fieldRs w) (fieldRt w).toNat (fieldImm w))
  | 48 => .ok (.ll (fieldRs w) (fieldRt w) (fieldImm w))
  | 49 => .ok (.lwc1 (fieldRs w) (fieldRt w) (fieldImm w))
  | 52 => .ok (.lld (fieldRs w) (fieldRt w) (fieldImm w))
  | 53 => .ok (.ldc1 (fieldRs w) (fieldRt w) (fieldImm w))
  | 55 => .ok (.ld (fieldRs w) (fieldRt w) (fieldImm w))
  | 56 => .ok (.sc (fieldRs w) (fieldRt w) (fieldImm w))
  | 57 => .ok (.swc1 (fieldRs w) (fieldRt w) (fieldImm w))
  | 60 => .ok (.scd (fieldRs w) (fieldRt w) (fieldImm w))
  | 61 => .ok (.sdc1 (fieldRs w) (fieldRt w) (fieldImm w))
  | 63 => .ok (.sd (fieldRs w) (fieldRt w) (fieldImm w))
  | _ => .error (.reservedMajor (fieldOpcode w))

/-- The four bytes of a word, the most significant at the lowest address (R82, R131). -/
def wordBytes (w : Word) : List Byte :=
  [w.extractLsb' 24 8, w.extractLsb' 16 8, w.extractLsb' 8 8, w.extractLsb' 0 8]

/-- Decode the instruction at the head of a list of bytes: four bytes, big-endian (R130, R131), and the bytes after it. -/
def decode : List Byte → Except DecodeError (Instr × List Byte)
  | b0 :: b1 :: b2 :: b3 :: rest =>
    match decodeWord (b0 ++ b1 ++ b2 ++ b3) with
    | .ok i => .ok (i, rest)
    | .error e => .error e
  | _ => .error .tooShort

/-- The instruction the decoder reads from `nbits` bits of `w`, every bit above them zero, laid out as four big-endian bytes. -/
def decodeTableWord (nbits w : Nat) : Option Instr :=
  match decode (wordBytes (BitVec.ofNat 32 (w % 2 ^ nbits))) with
  | .ok (i, _) => some i
  | .error _ => none

/-- Formats I, RI, C1B and FI (R133, R135, R139, R141). -/
def encodeI (op : BitVec 6) (a b : BitVec 5) (imm : Half) : Word := op ++ a ++ b ++ imm

/-- Formats R, C0M, C0F, C1M and C1A (R132, R136 to R138, R140). -/
def encodeR (op : BitVec 6) (a b c d : BitVec 5) (funct : BitVec 6) : Word := op ++ a ++ b ++ c ++ d ++ funct

/-- Format J (R134). -/
def encodeJ (op : BitVec 6) (target : BitVec 26) : Word := op ++ target

/-- The word of an instruction (R132 to R141, the match and the fields of its table row). -/
def encode : Instr → Word
  | .addi rs rt imm => encodeI 8#6 rs rt imm
  | .addiu rs rt imm => encodeI 9#6 rs rt imm
  | .slti rs rt imm => encodeI 10#6 rs rt imm
  | .sltiu rs rt imm => encodeI 11#6 rs rt imm
  | .andi rs rt imm => encodeI 12#6 rs rt imm
  | .ori rs rt imm => encodeI 13#6 rs rt imm
  | .xori rs rt imm => encodeI 14#6 rs rt imm
  | .lui rt imm => encodeI 15#6 0#5 rt imm
  | .daddi rs rt imm => encodeI 24#6 rs rt imm
  | .daddiu rs rt imm => encodeI 25#6 rs rt imm
  | .add rs rt rd => encodeR 0#6 rs rt rd 0#5 32#6
  | .addu rs rt rd => encodeR 0#6 rs rt rd 0#5 33#6
  | .sub rs rt rd => encodeR 0#6 rs rt rd 0#5 34#6
  | .subu rs rt rd => encodeR 0#6 rs rt rd 0#5 35#6
  | .and rs rt rd => encodeR 0#6 rs rt rd 0#5 36#6
  | .or rs rt rd => encodeR 0#6 rs rt rd 0#5 37#6
  | .xor rs rt rd => encodeR 0#6 rs rt rd 0#5 38#6
  | .nor rs rt rd => encodeR 0#6 rs rt rd 0#5 39#6
  | .slt rs rt rd => encodeR 0#6 rs rt rd 0#5 42#6
  | .sltu rs rt rd => encodeR 0#6 rs rt rd 0#5 43#6
  | .dadd rs rt rd => encodeR 0#6 rs rt rd 0#5 44#6
  | .daddu rs rt rd => encodeR 0#6 rs rt rd 0#5 45#6
  | .dsub rs rt rd => encodeR 0#6 rs rt rd 0#5 46#6
  | .dsubu rs rt rd => encodeR 0#6 rs rt rd 0#5 47#6
  | .sll rt rd sa => encodeR 0#6 0#5 rt rd (BitVec.ofNat 5 sa) 0#6
  | .srl rt rd sa => encodeR 0#6 0#5 rt rd (BitVec.ofNat 5 sa) 2#6
  | .sra rt rd sa => encodeR 0#6 0#5 rt rd (BitVec.ofNat 5 sa) 3#6
  | .sllv rs rt rd => encodeR 0#6 rs rt rd 0#5 4#6
  | .srlv rs rt rd => encodeR 0#6 rs rt rd 0#5 6#6
  | .srav rs rt rd => encodeR 0#6 rs rt rd 0#5 7#6
  | .dsll rt rd sa => encodeR 0#6 0#5 rt rd (BitVec.ofNat 5 sa) 56#6
  | .dsrl rt rd sa => encodeR 0#6 0#5 rt rd (BitVec.ofNat 5 sa) 58#6
  | .dsra rt rd sa => encodeR 0#6 0#5 rt rd (BitVec.ofNat 5 sa) 59#6
  | .dsllv rs rt rd => encodeR 0#6 rs rt rd 0#5 20#6
  | .dsrlv rs rt rd => encodeR 0#6 rs rt rd 0#5 22#6
  | .dsrav rs rt rd => encodeR 0#6 rs rt rd 0#5 23#6
  | .dsll32 rt rd sa => encodeR 0#6 0#5 rt rd (BitVec.ofNat 5 sa) 60#6
  | .dsrl32 rt rd sa => encodeR 0#6 0#5 rt rd (BitVec.ofNat 5 sa) 62#6
  | .dsra32 rt rd sa => encodeR 0#6 0#5 rt rd (BitVec.ofNat 5 sa) 63#6
  | .mfhi rd => encodeR 0#6 0#5 0#5 rd 0#5 16#6
  | .mthi rs => encodeR 0#6 rs 0#5 0#5 0#5 17#6
  | .mflo rd => encodeR 0#6 0#5 0#5 rd 0#5 18#6
  | .mtlo rs => encodeR 0#6 rs 0#5 0#5 0#5 19#6
  | .mult rs rt => encodeR 0#6 rs rt 0#5 0#5 24#6
  | .multu rs rt => encodeR 0#6 rs rt 0#5 0#5 25#6
  | .div rs rt => encodeR 0#6 rs rt 0#5 0#5 26#6
  | .divu rs rt => encodeR 0#6 rs rt 0#5 0#5 27#6
  | .dmult rs rt => encodeR 0#6 rs rt 0#5 0#5 28#6
  | .dmultu rs rt => encodeR 0#6 rs rt 0#5 0#5 29#6
  | .ddiv rs rt => encodeR 0#6 rs rt 0#5 0#5 30#6
  | .ddivu rs rt => encodeR 0#6 rs rt 0#5 0#5 31#6
  | .lb rs rt imm => encodeI 32#6 rs rt imm
  | .lbu rs rt imm => encodeI 36#6 rs rt imm
  | .lh rs rt imm => encodeI 33#6 rs rt imm
  | .lhu rs rt imm => encodeI 37#6 rs rt imm
  | .lw rs rt imm => encodeI 35#6 rs rt imm
  | .lwu rs rt imm => encodeI 39#6 rs rt imm
  | .ld rs rt imm => encodeI 55#6 rs rt imm
  | .lwl rs rt imm => encodeI 34#6 rs rt imm
  | .lwr rs rt imm => encodeI 38#6 rs rt imm
  | .ldl rs rt imm => encodeI 26#6 rs rt imm
  | .ldr rs rt imm => encodeI 27#6 rs rt imm
  | .sb rs rt imm => encodeI 40#6 rs rt imm
  | .sh rs rt imm => encodeI 41#6 rs rt imm
  | .sw rs rt imm => encodeI 43#6 rs rt imm
  | .sd rs rt imm => encodeI 63#6 rs rt imm
  | .swl rs rt imm => encodeI 42#6 rs rt imm
  | .swr rs rt imm => encodeI 46#6 rs rt imm
  | .sdl rs rt imm => encodeI 44#6 rs rt imm
  | .sdr rs rt imm => encodeI 45#6 rs rt imm
  | .ll rs rt imm => encodeI 48#6 rs rt imm
  | .lld rs rt imm => encodeI 52#6 rs rt imm
  | .sc rs rt imm => encodeI 56#6 rs rt imm
  | .scd rs rt imm => encodeI 60#6 rs rt imm
  | .j target => encodeJ 2#6 target
  | .jal target => encodeJ 3#6 target
  | .jr rs => encodeR 0#6 rs 0#5 0#5 0#5 8#6
  | .jalr rs rd => encodeR 0#6 rs 0#5 rd 0#5 9#6
  | .beq rs rt imm => encodeI 4#6 rs rt imm
  | .bne rs rt imm => encodeI 5#6 rs rt imm
  | .blez rs imm => encodeI 6#6 rs 0#5 imm
  | .bgtz rs imm => encodeI 7#6 rs 0#5 imm
  | .beql rs rt imm => encodeI 20#6 rs rt imm
  | .bnel rs rt imm => encodeI 21#6 rs rt imm
  | .blezl rs imm => encodeI 22#6 rs 0#5 imm
  | .bgtzl rs imm => encodeI 23#6 rs 0#5 imm
  | .bltz rs imm => encodeI 1#6 rs 0#5 imm
  | .bgez rs imm => encodeI 1#6 rs 1#5 imm
  | .bltzl rs imm => encodeI 1#6 rs 2#5 imm
  | .bgezl rs imm => encodeI 1#6 rs 3#5 imm
  | .bltzal rs imm => encodeI 1#6 rs 16#5 imm
  | .bgezal rs imm => encodeI 1#6 rs 17#5 imm
  | .bltzall rs imm => encodeI 1#6 rs 18#5 imm
  | .bgezall rs imm => encodeI 1#6 rs 19#5 imm
  | .syscall => encodeR 0#6 0#5 0#5 0#5 0#5 12#6
  | .break_ => encodeR 0#6 0#5 0#5 0#5 0#5 13#6
  | .sync => encodeR 0#6 0#5 0#5 0#5 0#5 15#6
  | .cache base op imm => encodeI 47#6 base (BitVec.ofNat 5 op) imm
  | .tge rs rt => encodeR 0#6 rs rt 0#5 0#5 48#6
  | .tgeu rs rt => encodeR 0#6 rs rt 0#5 0#5 49#6
  | .tlt rs rt => encodeR 0#6 rs rt 0#5 0#5 50#6
  | .tltu rs rt => encodeR 0#6 rs rt 0#5 0#5 51#6
  | .teq rs rt => encodeR 0#6 rs rt 0#5 0#5 52#6
  | .tne rs rt => encodeR 0#6 rs rt 0#5 0#5 54#6
  | .tgei rs imm => encodeI 1#6 rs 8#5 imm
  | .tgeiu rs imm => encodeI 1#6 rs 9#5 imm
  | .tlti rs imm => encodeI 1#6 rs 10#5 imm
  | .tltiu rs imm => encodeI 1#6 rs 11#5 imm
  | .teqi rs imm => encodeI 1#6 rs 12#5 imm
  | .tnei rs imm => encodeI 1#6 rs 14#5 imm
  | .mfc0 rt rd => encodeR 16#6 0#5 rt rd 0#5 0#6
  | .mtc0 rt rd => encodeR 16#6 4#5 rt rd 0#5 0#6
  | .tlbr => encodeR 16#6 16#5 0#5 0#5 0#5 1#6
  | .tlbwi => encodeR 16#6 16#5 0#5 0#5 0#5 2#6
  | .tlbwr => encodeR 16#6 16#5 0#5 0#5 0#5 6#6
  | .tlbp => encodeR 16#6 16#5 0#5 0#5 0#5 8#6
  | .eret => encodeR 16#6 16#5 0#5 0#5 0#5 24#6
  | .mfc1 rt fs => encodeR 17#6 0#5 rt fs 0#5 0#6
  | .dmfc1 rt fs => encodeR 17#6 1#5 rt fs 0#5 0#6
  | .cfc1 rt fs => encodeR 17#6 2#5 rt fs 0#5 0#6
  | .mtc1 rt fs => encodeR 17#6 4#5 rt fs 0#5 0#6
  | .dmtc1 rt fs => encodeR 17#6 5#5 rt fs 0#5 0#6
  | .ctc1 rt fs => encodeR 17#6 6#5 rt fs 0#5 0#6
  | .bc1f imm => encodeI 17#6 8#5 0#5 imm
  | .bc1t imm => encodeI 17#6 8#5 1#5 imm
  | .bc1fl imm => encodeI 17#6 8#5 2#5 imm
  | .bc1tl imm => encodeI 17#6 8#5 3#5 imm
  | .lwc1 base ft imm => encodeI 49#6 base ft imm
  | .ldc1 base ft imm => encodeI 53#6 base ft imm
  | .swc1 base ft imm => encodeI 57#6 base ft imm
  | .sdc1 base ft imm => encodeI 61#6 base ft imm
  | .addS ft fs fd => encodeR 17#6 16#5 ft fs fd 0#6
  | .addD ft fs fd => encodeR 17#6 17#5 ft fs fd 0#6
  | .subS ft fs fd => encodeR 17#6 16#5 ft fs fd 1#6
  | .subD ft fs fd => encodeR 17#6 17#5 ft fs fd 1#6
  | .mulS ft fs fd => encodeR 17#6 16#5 ft fs fd 2#6
  | .mulD ft fs fd => encodeR 17#6 17#5 ft fs fd 2#6
  | .divS ft fs fd => encodeR 17#6 16#5 ft fs fd 3#6
  | .divD ft fs fd => encodeR 17#6 17#5 ft fs fd 3#6
  | .sqrtS fs fd => encodeR 17#6 16#5 0#5 fs fd 4#6
  | .sqrtD fs fd => encodeR 17#6 17#5 0#5 fs fd 4#6
  | .absS fs fd => encodeR 17#6 16#5 0#5 fs fd 5#6
  | .absD fs fd => encodeR 17#6 17#5 0#5 fs fd 5#6
  | .movS fs fd => encodeR 17#6 16#5 0#5 fs fd 6#6
  | .movD fs fd => encodeR 17#6 17#5 0#5 fs fd 6#6
  | .negS fs fd => encodeR 17#6 16#5 0#5 fs fd 7#6
  | .negD fs fd => encodeR 17#6 17#5 0#5 fs fd 7#6
  | .roundLS fs fd => encodeR 17#6 16#5 0#5 fs fd 8#6
  | .roundLD fs fd => encodeR 17#6 17#5 0#5 fs fd 8#6
  | .truncLS fs fd => encodeR 17#6 16#5 0#5 fs fd 9#6
  | .truncLD fs fd => encodeR 17#6 17#5 0#5 fs fd 9#6
  | .ceilLS fs fd => encodeR 17#6 16#5 0#5 fs fd 10#6
  | .ceilLD fs fd => encodeR 17#6 17#5 0#5 fs fd 10#6
  | .floorLS fs fd => encodeR 17#6 16#5 0#5 fs fd 11#6
  | .floorLD fs fd => encodeR 17#6 17#5 0#5 fs fd 11#6
  | .roundWS fs fd => encodeR 17#6 16#5 0#5 fs fd 12#6
  | .roundWD fs fd => encodeR 17#6 17#5 0#5 fs fd 12#6
  | .truncWS fs fd => encodeR 17#6 16#5 0#5 fs fd 13#6
  | .truncWD fs fd => encodeR 17#6 17#5 0#5 fs fd 13#6
  | .ceilWS fs fd => encodeR 17#6 16#5 0#5 fs fd 14#6
  | .ceilWD fs fd => encodeR 17#6 17#5 0#5 fs fd 14#6
  | .floorWS fs fd => encodeR 17#6 16#5 0#5 fs fd 15#6
  | .floorWD fs fd => encodeR 17#6 17#5 0#5 fs fd 15#6
  | .cvtSD fs fd => encodeR 17#6 17#5 0#5 fs fd 32#6
  | .cvtSW fs fd => encodeR 17#6 20#5 0#5 fs fd 32#6
  | .cvtSL fs fd => encodeR 17#6 21#5 0#5 fs fd 32#6
  | .cvtDS fs fd => encodeR 17#6 16#5 0#5 fs fd 33#6
  | .cvtDW fs fd => encodeR 17#6 20#5 0#5 fs fd 33#6
  | .cvtDL fs fd => encodeR 17#6 21#5 0#5 fs fd 33#6
  | .cvtWS fs fd => encodeR 17#6 16#5 0#5 fs fd 36#6
  | .cvtWD fs fd => encodeR 17#6 17#5 0#5 fs fd 36#6
  | .cvtLS fs fd => encodeR 17#6 16#5 0#5 fs fd 37#6
  | .cvtLD fs fd => encodeR 17#6 17#5 0#5 fs fd 37#6
  | .cFS ft fs => encodeR 17#6 16#5 ft fs 0#5 48#6
  | .cFD ft fs => encodeR 17#6 17#5 ft fs 0#5 48#6
  | .cUnS ft fs => encodeR 17#6 16#5 ft fs 0#5 49#6
  | .cUnD ft fs => encodeR 17#6 17#5 ft fs 0#5 49#6
  | .cEqS ft fs => encodeR 17#6 16#5 ft fs 0#5 50#6
  | .cEqD ft fs => encodeR 17#6 17#5 ft fs 0#5 50#6
  | .cUeqS ft fs => encodeR 17#6 16#5 ft fs 0#5 51#6
  | .cUeqD ft fs => encodeR 17#6 17#5 ft fs 0#5 51#6
  | .cOltS ft fs => encodeR 17#6 16#5 ft fs 0#5 52#6
  | .cOltD ft fs => encodeR 17#6 17#5 ft fs 0#5 52#6
  | .cUltS ft fs => encodeR 17#6 16#5 ft fs 0#5 53#6
  | .cUltD ft fs => encodeR 17#6 17#5 ft fs 0#5 53#6
  | .cOleS ft fs => encodeR 17#6 16#5 ft fs 0#5 54#6
  | .cOleD ft fs => encodeR 17#6 17#5 ft fs 0#5 54#6
  | .cUleS ft fs => encodeR 17#6 16#5 ft fs 0#5 55#6
  | .cUleD ft fs => encodeR 17#6 17#5 ft fs 0#5 55#6
  | .cSfS ft fs => encodeR 17#6 16#5 ft fs 0#5 56#6
  | .cSfD ft fs => encodeR 17#6 17#5 ft fs 0#5 56#6
  | .cNgleS ft fs => encodeR 17#6 16#5 ft fs 0#5 57#6
  | .cNgleD ft fs => encodeR 17#6 17#5 ft fs 0#5 57#6
  | .cSeqS ft fs => encodeR 17#6 16#5 ft fs 0#5 58#6
  | .cSeqD ft fs => encodeR 17#6 17#5 ft fs 0#5 58#6
  | .cNglS ft fs => encodeR 17#6 16#5 ft fs 0#5 59#6
  | .cNglD ft fs => encodeR 17#6 17#5 ft fs 0#5 59#6
  | .cLtS ft fs => encodeR 17#6 16#5 ft fs 0#5 60#6
  | .cLtD ft fs => encodeR 17#6 17#5 ft fs 0#5 60#6
  | .cNgeS ft fs => encodeR 17#6 16#5 ft fs 0#5 61#6
  | .cNgeD ft fs => encodeR 17#6 17#5 ft fs 0#5 61#6
  | .cLeS ft fs => encodeR 17#6 16#5 ft fs 0#5 62#6
  | .cLeD ft fs => encodeR 17#6 17#5 ft fs 0#5 62#6
  | .cNgtS ft fs => encodeR 17#6 16#5 ft fs 0#5 63#6
  | .cNgtD ft fs => encodeR 17#6 17#5 ft fs 0#5 63#6

/-- The bits of an instruction's word that decode neither tests nor reads as an operand (R148, `ignored_bits` of
spec/opcode_table.json). -/
def ignoredBits : Instr → Word
  | .addi _ _ _ => 0x00000000
  | .addiu _ _ _ => 0x00000000
  | .slti _ _ _ => 0x00000000
  | .sltiu _ _ _ => 0x00000000
  | .andi _ _ _ => 0x00000000
  | .ori _ _ _ => 0x00000000
  | .xori _ _ _ => 0x00000000
  | .lui _ _ => 0x03E00000
  | .daddi _ _ _ => 0x00000000
  | .daddiu _ _ _ => 0x00000000
  | .add _ _ _ => 0x000007C0
  | .addu _ _ _ => 0x000007C0
  | .sub _ _ _ => 0x000007C0
  | .subu _ _ _ => 0x000007C0
  | .and _ _ _ => 0x000007C0
  | .or _ _ _ => 0x000007C0
  | .xor _ _ _ => 0x000007C0
  | .nor _ _ _ => 0x000007C0
  | .slt _ _ _ => 0x000007C0
  | .sltu _ _ _ => 0x000007C0
  | .dadd _ _ _ => 0x000007C0
  | .daddu _ _ _ => 0x000007C0
  | .dsub _ _ _ => 0x000007C0
  | .dsubu _ _ _ => 0x000007C0
  | .sll _ _ _ => 0x03E00000
  | .srl _ _ _ => 0x03E00000
  | .sra _ _ _ => 0x03E00000
  | .sllv _ _ _ => 0x000007C0
  | .srlv _ _ _ => 0x000007C0
  | .srav _ _ _ => 0x000007C0
  | .dsll _ _ _ => 0x03E00000
  | .dsrl _ _ _ => 0x03E00000
  | .dsra _ _ _ => 0x03E00000
  | .dsllv _ _ _ => 0x000007C0
  | .dsrlv _ _ _ => 0x000007C0
  | .dsrav _ _ _ => 0x000007C0
  | .dsll32 _ _ _ => 0x03E00000
  | .dsrl32 _ _ _ => 0x03E00000
  | .dsra32 _ _ _ => 0x03E00000
  | .mfhi _ => 0x03FF07C0
  | .mthi _ => 0x001FFFC0
  | .mflo _ => 0x03FF07C0
  | .mtlo _ => 0x001FFFC0
  | .mult _ _ => 0x0000FFC0
  | .multu _ _ => 0x0000FFC0
  | .div _ _ => 0x0000FFC0
  | .divu _ _ => 0x0000FFC0
  | .dmult _ _ => 0x0000FFC0
  | .dmultu _ _ => 0x0000FFC0
  | .ddiv _ _ => 0x0000FFC0
  | .ddivu _ _ => 0x0000FFC0
  | .lb _ _ _ => 0x00000000
  | .lbu _ _ _ => 0x00000000
  | .lh _ _ _ => 0x00000000
  | .lhu _ _ _ => 0x00000000
  | .lw _ _ _ => 0x00000000
  | .lwu _ _ _ => 0x00000000
  | .ld _ _ _ => 0x00000000
  | .lwl _ _ _ => 0x00000000
  | .lwr _ _ _ => 0x00000000
  | .ldl _ _ _ => 0x00000000
  | .ldr _ _ _ => 0x00000000
  | .sb _ _ _ => 0x00000000
  | .sh _ _ _ => 0x00000000
  | .sw _ _ _ => 0x00000000
  | .sd _ _ _ => 0x00000000
  | .swl _ _ _ => 0x00000000
  | .swr _ _ _ => 0x00000000
  | .sdl _ _ _ => 0x00000000
  | .sdr _ _ _ => 0x00000000
  | .ll _ _ _ => 0x00000000
  | .lld _ _ _ => 0x00000000
  | .sc _ _ _ => 0x00000000
  | .scd _ _ _ => 0x00000000
  | .j _ => 0x00000000
  | .jal _ => 0x00000000
  | .jr _ => 0x001FFFC0
  | .jalr _ _ => 0x001F07C0
  | .beq _ _ _ => 0x00000000
  | .bne _ _ _ => 0x00000000
  | .blez _ _ => 0x001F0000
  | .bgtz _ _ => 0x001F0000
  | .beql _ _ _ => 0x00000000
  | .bnel _ _ _ => 0x00000000
  | .blezl _ _ => 0x001F0000
  | .bgtzl _ _ => 0x001F0000
  | .bltz _ _ => 0x00000000
  | .bgez _ _ => 0x00000000
  | .bltzl _ _ => 0x00000000
  | .bgezl _ _ => 0x00000000
  | .bltzal _ _ => 0x00000000
  | .bgezal _ _ => 0x00000000
  | .bltzall _ _ => 0x00000000
  | .bgezall _ _ => 0x00000000
  | .syscall => 0x03FFFFC0
  | .break_ => 0x03FFFFC0
  | .sync => 0x03FFFFC0
  | .cache _ _ _ => 0x00000000
  | .tge _ _ => 0x0000FFC0
  | .tgeu _ _ => 0x0000FFC0
  | .tlt _ _ => 0x0000FFC0
  | .tltu _ _ => 0x0000FFC0
  | .teq _ _ => 0x0000FFC0
  | .tne _ _ => 0x0000FFC0
  | .tgei _ _ => 0x00000000
  | .tgeiu _ _ => 0x00000000
  | .tlti _ _ => 0x00000000
  | .tltiu _ _ => 0x00000000
  | .teqi _ _ => 0x00000000
  | .tnei _ _ => 0x00000000
  | .mfc0 _ _ => 0x000007FF
  | .mtc0 _ _ => 0x000007FF
  | .tlbr => 0x001FFFC0
  | .tlbwi => 0x001FFFC0
  | .tlbwr => 0x001FFFC0
  | .tlbp => 0x001FFFC0
  | .eret => 0x001FFFC0
  | .mfc1 _ _ => 0x000007FF
  | .dmfc1 _ _ => 0x000007FF
  | .cfc1 _ _ => 0x000007FF
  | .mtc1 _ _ => 0x000007FF
  | .dmtc1 _ _ => 0x000007FF
  | .ctc1 _ _ => 0x000007FF
  | .bc1f _ => 0x00000000
  | .bc1t _ => 0x00000000
  | .bc1fl _ => 0x00000000
  | .bc1tl _ => 0x00000000
  | .lwc1 _ _ _ => 0x00000000
  | .ldc1 _ _ _ => 0x00000000
  | .swc1 _ _ _ => 0x00000000
  | .sdc1 _ _ _ => 0x00000000
  | .addS _ _ _ => 0x00000000
  | .addD _ _ _ => 0x00000000
  | .subS _ _ _ => 0x00000000
  | .subD _ _ _ => 0x00000000
  | .mulS _ _ _ => 0x00000000
  | .mulD _ _ _ => 0x00000000
  | .divS _ _ _ => 0x00000000
  | .divD _ _ _ => 0x00000000
  | .sqrtS _ _ => 0x001F0000
  | .sqrtD _ _ => 0x001F0000
  | .absS _ _ => 0x001F0000
  | .absD _ _ => 0x001F0000
  | .movS _ _ => 0x001F0000
  | .movD _ _ => 0x001F0000
  | .negS _ _ => 0x001F0000
  | .negD _ _ => 0x001F0000
  | .roundLS _ _ => 0x001F0000
  | .roundLD _ _ => 0x001F0000
  | .truncLS _ _ => 0x001F0000
  | .truncLD _ _ => 0x001F0000
  | .ceilLS _ _ => 0x001F0000
  | .ceilLD _ _ => 0x001F0000
  | .floorLS _ _ => 0x001F0000
  | .floorLD _ _ => 0x001F0000
  | .roundWS _ _ => 0x001F0000
  | .roundWD _ _ => 0x001F0000
  | .truncWS _ _ => 0x001F0000
  | .truncWD _ _ => 0x001F0000
  | .ceilWS _ _ => 0x001F0000
  | .ceilWD _ _ => 0x001F0000
  | .floorWS _ _ => 0x001F0000
  | .floorWD _ _ => 0x001F0000
  | .cvtSD _ _ => 0x001F0000
  | .cvtSW _ _ => 0x001F0000
  | .cvtSL _ _ => 0x001F0000
  | .cvtDS _ _ => 0x001F0000
  | .cvtDW _ _ => 0x001F0000
  | .cvtDL _ _ => 0x001F0000
  | .cvtWS _ _ => 0x001F0000
  | .cvtWD _ _ => 0x001F0000
  | .cvtLS _ _ => 0x001F0000
  | .cvtLD _ _ => 0x001F0000
  | .cFS _ _ => 0x000007C0
  | .cFD _ _ => 0x000007C0
  | .cUnS _ _ => 0x000007C0
  | .cUnD _ _ => 0x000007C0
  | .cEqS _ _ => 0x000007C0
  | .cEqD _ _ => 0x000007C0
  | .cUeqS _ _ => 0x000007C0
  | .cUeqD _ _ => 0x000007C0
  | .cOltS _ _ => 0x000007C0
  | .cOltD _ _ => 0x000007C0
  | .cUltS _ _ => 0x000007C0
  | .cUltD _ _ => 0x000007C0
  | .cOleS _ _ => 0x000007C0
  | .cOleD _ _ => 0x000007C0
  | .cUleS _ _ => 0x000007C0
  | .cUleD _ _ => 0x000007C0
  | .cSfS _ _ => 0x000007C0
  | .cSfD _ _ => 0x000007C0
  | .cNgleS _ _ => 0x000007C0
  | .cNgleD _ _ => 0x000007C0
  | .cSeqS _ _ => 0x000007C0
  | .cSeqD _ _ => 0x000007C0
  | .cNglS _ _ => 0x000007C0
  | .cNglD _ _ => 0x000007C0
  | .cLtS _ _ => 0x000007C0
  | .cLtD _ _ => 0x000007C0
  | .cNgeS _ _ => 0x000007C0
  | .cNgeD _ _ => 0x000007C0
  | .cLeS _ _ => 0x000007C0
  | .cLeD _ _ => 0x000007C0
  | .cNgtS _ _ => 0x000007C0
  | .cNgtD _ _ => 0x000007C0

/-- The bytes of an instruction as memory holds them. -/
def encodeBytes (i : Instr) : List Byte := wordBytes (encode i)

end Sys2Proof
end

