-- ==== Sys2Proof/Config.lean ====
section
/-! DEFINITION. The open parameters of the spec (R5, R13, 93_implementation_defined.md): constants without a body, so that no
proof can learn their values, each constrained as far as its rule constrains it and no further. -/

namespace Sys2Proof

/-- A rounding direction (R421, R451): RN, RZ, RP, RM, in the order of the two-bit field `fcr31[1:0]`. -/
inductive RoundMode where
  /-- to nearest, ties to even (0) -/
  | nearest
  /-- toward zero (1) -/
  | zero
  /-- toward plus infinity (2) -/
  | up
  /-- toward minus infinity (3) -/
  | down
deriving DecidableEq, Repr

/-- The operation and operand bits on which the NaN written to a single-precision result may depend (R422). -/
inductive NaNSource32 where
  | add (a b : Word)
  | sub (a b : Word)
  | mul (a b : Word)
  | div (a b : Word)
  | sqrt (a : Word)
  | cvtD (a : Dword)
deriving DecidableEq, Repr

/-- The operation and operand bits on which the NaN written to a double-precision result may depend (R422). -/
inductive NaNSource64 where
  | add (a b : Dword)
  | sub (a b : Dword)
  | mul (a b : Dword)
  | div (a b : Dword)
  | sqrt (a : Dword)
  | cvtS (a : Word)
deriving DecidableEq, Repr

/-- The source bits of a floating-point to integer conversion, with their format (R452). -/
inductive CvtSource where
  | single (v : Word)
  | double (v : Dword)
deriving DecidableEq, Repr

/-- One transaction of the memory port that the platform, not RAM, answers or takes (R85), and the reset input (R600): each with
the time `T` at which it happened. -/
inductive PortEvent where
  /-- a `PhysRead(pa, size)` and the value it returned -/
  | read (time : Nat) (pa : Word) (size : Nat) (value : Dword)
  /-- a `PhysWrite(pa, size, value)` -/
  | write (time : Nat) (pa : Word) (size : Nat) (value : Dword)
  /-- a reset by the host -/
  | reset (time : Nat)
deriving DecidableEq, Repr

namespace Config

/-- What the platform answers where it declares no RAM (R85, D40, log 30): the earlier port transactions, latest first, the time `T`,
the physical address and the size of the `PhysRead` decide it. -/
opaque physRead : List PortEvent → Nat → Word → Nat → Dword

/-- `COUNT_PER_OP - 1` (R5, R562, log 11). -/
opaque countPerOpPred : Nat

/-- `COUNT_PER_OP`, a positive integer: Count increments per executed instruction (R562, log 11). -/
def countPerOp : Nat := countPerOpPred + 1

/-- The unconstrained part of `RandomSlot(Count, Wired)` (R568, log 12). -/
opaque randomRaw : Word → Word → Nat

/-- `RandomSlot(Count, Wired)` (R568): some slot in Wired..31 when Wired is at most 31; every such function has this form. -/
def randomSlot (count wired : Word) : Nat := wired.toNat + randomRaw count wired % (32 - wired.toNat)

/-- `DivZero32(signedness, x[rs][31:0])` (R251, log 13): the pair (lo, hi) that a 32-bit division by zero leaves. -/
opaque divZero32 : Bool → Word → Dword × Dword

/-- `DivZero64(signedness, x[rs])` (R251, log 13). -/
opaque divZero64 : Bool → Dword → Dword × Dword

/-- The unconstrained bits of `NaNResult_32` (R422, log 14): sign and fraction. -/
opaque nanRaw32 : NaNSource32 → Word

/-- The unconstrained bits of `NaNResult_64` (R422, log 14). -/
opaque nanRaw64 : NaNSource64 → Dword

/-- `NaNResult_32` (R422): exponent all ones, fraction not zero, sign and fraction otherwise open. -/
def nanResult32 (src : NaNSource32) : Word :=
  let raw := nanRaw32 src
  let frac := raw.extractLsb' 0 23
  raw.extractLsb' 31 1 ++ 0xFF#8 ++ (if frac = 0 then 1 else frac)

/-- `NaNResult_64` (R422). -/
def nanResult64 (src : NaNSource64) : Dword :=
  let raw := nanRaw64 src
  let frac := raw.extractLsb' 0 52
  raw.extractLsb' 63 1 ++ 0x7FF#11 ++ (if frac = 0 then 1 else frac)

/-- `CvtInvalid_32(srcbits, mode)` (R452, log 15): any 32-bit value. -/
opaque cvtInvalid32 : CvtSource → RoundMode → Word

/-- `CvtInvalid_64(srcbits, mode)` (R452, log 15): any 64-bit value. -/
opaque cvtInvalid64 : CvtSource → RoundMode → Dword

/-- `FCR0_VALUE` (R59, log 16). -/
opaque fcr0Value : Word

/-- `PRID_VALUE` (R44, log 16). -/
opaque pridValue : Word

/-- `CONFIG_RESET` (R45, log 16). -/
opaque configReset : Word

/-- The value CFC1 writes for a control register other than 0 and 31 (R403, U27, log 17): any value, a fresh one for each
number of use. -/
opaque freeCfc1 : Nat → Dword

/-- The `fgr` bits that a reshuffle leaves undetermined (R58, U26, log 18): any value for each number of use and register. -/
opaque freeFgr : Nat → Nat → Dword

end Config
end Sys2Proof
end

