-- ==== Sys2Proof/Machine/State.lean ====
section
/-! DEFINITION. The state of the block (R20), the reasons a step can stop, and the state after reset (R601, R602, R604). -/

namespace Sys2Proof.Machine

/-- The direction of an access (R89). -/
inductive Direction where
  | load
  | store
  | fetch
deriving DecidableEq, Repr

/-- The exceptions of the block (R541). -/
inductive Exc where
  /-- an enabled pending interrupt at a boundary (R551) -/
  | interrupt
  /-- no mapping for the page of `va` in this direction (R544) -/
  | tlbMiss (dir : Direction) (va : Word)
  /-- a misaligned address (R545) -/
  | addressError (dir : Direction) (va : Word)
  /-- coprocessor `n` unusable (R546) -/
  | coprocessorUnusable (n : BitVec 2)
  /-- signed overflow (R547) -/
  | integerOverflow
  /-- a trap condition holds (R548) -/
  | trap
  /-- SYSCALL (R549) -/
  | syscall
  /-- BREAK (R550) -/
  | breakpoint
deriving DecidableEq, Repr

/-- The halt causes, the complete list of R553. -/
inductive HaltCause where
  /-- MFC0 of Random (R361) -/
  | randomRead
  /-- MTC0 of an index above 31 (R370) -/
  | indexOutOfRange
  /-- MTC0 of a nonzero value to Cause (R382) -/
  | nonZeroCauseWrite
  /-- MTC0 to a number that is no target (R391) -/
  | unknownMtc0Target
  /-- ERET with Status.EXL = 0 (R368) -/
  | eretWithoutException
  /-- a signalling compare of unordered operands (R454) -/
  | fpInvalidOperation
  /-- a word that is no instruction (R149) -/
  | reservedInstruction
deriving DecidableEq, Repr

/-- Why the machine stops with a fault. -/
inductive Fault where
  /-- The spec's `halt(cause)` (R552): `stop` is set and the machine is terminal, with no state (log 7). Raised by the
  instructions R553 names and by `step` for a reserved word. Safe: the spec promises nothing after it. -/
  | halt (cause : HaltCause)
  /-- A step of a machine whose `stop` is 1 (R64, R26): no step exists (log 9). Raised by `step` alone. Safe. -/
  | stopped
deriving DecidableEq, Repr

/-- Why the machine has no successor: the spec's `refuse` (R13, R540), which is neither a fault nor a halt (log 8). -/
inductive Refusal where
  /-- An instruction without a meaning in this model. Raised by `exec`'s arms alone. Safe. -/
  | notModelled (mnemonic : String)
  /-- A jump, a branch or ERET executed with `ds` = 1 (R624, U7, U19). Raised by those instructions. Safe. -/
  | branchInDelaySlot
  /-- A double-view operand of odd number with Status.FR = 0 (R57, U25). Raised by COP1 instructions. Safe. -/
  | oddDouble
  /-- Translation outside the unmapped window while `TLBConsistent()` fails (R98, U13, U14). Raised by fetches, loads and
  stores. Safe. -/
  | tlbInconsistent
  /-- TLBWR with Wired above 31 (R568, U16). Raised by TLBWR. Safe. -/
  | wiredAbove31
deriving DecidableEq, Repr

/-- The 32-bit cells of the COP0 register file (R30), by name. Random (register 1) is not stored (R32). -/
structure Cop0 where
  /-- register 0: Index (R31) -/
  index : Word
  /-- register 2: EntryLo0 (R33) -/
  entryLo0 : Word
  /-- register 3: EntryLo1 (R33) -/
  entryLo1 : Word
  /-- register 4: Context (R34) -/
  context : Word
  /-- register 5: PageMask (R35) -/
  pageMask : Word
  /-- register 6: Wired (R36) -/
  wired : Word
  /-- register 7: no register (R52) -/
  reg7 : Word
  /-- register 8: BadVAddr (R37) -/
  badVAddr : Word
  /-- register 9: Count (R38) -/
  count : Word
  /-- register 10: EntryHi (R39) -/
  entryHi : Word
  /-- register 11: Compare (R40) -/
  compare : Word
  /-- register 12: Status (R41) -/
  status : Word
  /-- register 13: Cause (R42) -/
  cause : Word
  /-- register 14: EPC (R43) -/
  epc : Word
  /-- register 15: PRId (R44) -/
  prid : Word
  /-- register 16: Config (R45) -/
  config : Word
  /-- register 17: LLAddr (R46) -/
  llAddr : Word
  /-- register 18: WatchLo (R47) -/
  watchLo : Word
  /-- register 19: WatchHi (R47) -/
  watchHi : Word
  /-- register 20: XContext (R48) -/
  xContext : Word
  /-- register 21: no register (R52) -/
  reg21 : Word
  /-- register 22: no register (R52) -/
  reg22 : Word
  /-- register 23: no register (R52) -/
  reg23 : Word
  /-- register 24: no register (R52) -/
  reg24 : Word
  /-- register 25: no register (R52) -/
  reg25 : Word
  /-- register 26: PErr (R49) -/
  pErr : Word
  /-- register 27: CacheErr (R49) -/
  cacheErr : Word
  /-- register 28: TagLo (R50) -/
  tagLo : Word
  /-- register 29: TagHi (R50) -/
  tagHi : Word
  /-- register 30: ErrorEPC (R51) -/
  errorEpc : Word
  /-- register 31: no register (R52) -/
  reg31 : Word
deriving DecidableEq, Repr

/-- One half, even or odd, of a TLB entry (R65). -/
structure TlbHalf where
  /-- physical frame number, 24 bits -/
  pfn : BitVec 24
  /-- cache attribute, no function (R99) -/
  cache : BitVec 3
  /-- writable -/
  dirty : Bool
  /-- valid -/
  valid : Bool
deriving DecidableEq, Repr

/-- One TLB entry (R65): its ranges are functions of these fields (R90), not state. -/
structure TlbEntry where
  mask : BitVec 12
  vpn2 : BitVec 19
  asid : BitVec 8
  global : Bool
  even : TlbHalf
  odd : TlbHalf
deriving DecidableEq, Repr

/-- A scheduled event (R564): at time `deadline` the lines Cause[14:10] take `set`, then lose `clear`. -/
structure Event where
  deadline : Nat
  set : BitVec 5
  clear : BitVec 5
deriving DecidableEq, Repr

/-- A range of physical addresses (R85). -/
structure Region where
  base : Nat
  size : Nat
deriving DecidableEq, Repr

/-- Physical memory: the bytes that differ from what an unlisted address reads as, addresses strictly rising (log 5). -/
abbrev Memory := List Host.Cell

/-- The state of the block (R20). -/
structure State where
  /-- general registers; `x[0]` reads 0 through `readX` (R21, R22) -/
  x : Vector Dword 32
  /-- high half or remainder (R24) -/
  hi : Dword
  /-- low half or quotient (R24) -/
  lo : Dword
  /-- address of the instruction being executed (R25) -/
  pc : Word
  /-- address of the instruction after it (R25) -/
  npc : Word
  /-- the instruction at `pc` is in a delay slot (R25) -/
  ds : Bool
  /-- COP0 registers (R30) -/
  cp0 : Cop0
  /-- floating-point registers, reached through the views of R56, R57 -/
  fgr : Vector Dword 32
  /-- floating-point implementation register (R59) -/
  fcr0 : Word
  /-- floating-point control and status register (R60) -/
  fcr31 : Word
  /-- load-linked bit (R63) -/
  llbit : Bool
  /-- halt flag (R64) -/
  stop : Bool
  /-- the TLB (R65); the look-up tables are functions of it (R66) -/
  tlb : Vector TlbEntry 32
  /-- the hidden time `T` (R67) -/
  time : Nat
  /-- scheduled events, oldest scheduled first (R564) -/
  queue : List Event
  /-- the bytes of the platform's RAM (R85) -/
  mem : Memory
  /-- the physical addresses the platform does not declare to be RAM (R85, log 6): an open parameter, as plain data -/
  notRam : List Region
  /-- the port transactions with such addresses, latest first (R85, log 30): what the platform has seen of the block -/
  port : List PortEvent
  /-- the MODEL's own counter of uses of a free value (log 17); no state of the spec -/
  freeCount : Nat
deriving DecidableEq, Repr

/-- A TLB half with every field zero (log 4). -/
def TlbHalf.zero : TlbHalf := ⟨0, 0, false, false⟩

/-- A TLB entry with every field zero (log 4). -/
def TlbEntry.zero : TlbEntry := ⟨0, 0, 0, false, TlbHalf.zero, TlbHalf.zero⟩

/-- COP0 after reset: Status with ERL = BEV = 1, Wired 0, PRId and Config the open constants (R601); every other bit is
zero by DESIGN CHOICE (R602, logs 1 and 2). -/
def Cop0.reset : Cop0 :=
  {
    index := 0
    entryLo0 := 0
    entryLo1 := 0
    context := 0
    pageMask := 0
    wired := 0
    reg7 := 0
    badVAddr := 0
    count := 0
    entryHi := 0
    compare := 0
    status := 0x00400004#32
    cause := 0
    epc := 0
    prid := Config.pridValue
    config := Config.configReset
    llAddr := 0
    watchLo := 0
    watchHi := 0
    xContext := 0
    reg21 := 0
    reg22 := 0
    reg23 := 0
    reg24 := 0
    reg25 := 0
    pErr := 0
    cacheErr := 0
    tagLo := 0
    tagHi := 0
    errorEpc := 0
    reg31 := 0 }

/-- The machine right after reset (R601, R602, R604). Values R601 does not state are the choices of logs 1 to 5. The platform's part
is the model's choice too: memory with nothing listed (log 5), RAM everywhere (log 6), no port transaction yet (log 30). It is the
state a run starts from, not the effect of the reset input on a block in use: that is `State.hostReset`, which leaves the platform's
memory as it is (log 31). -/
def State.reset : State where
  x := Vector.replicate 32 0
  hi := 0
  lo := 0
  pc := 0xBFC00000#32
  npc := 0xBFC00004#32
  ds := false
  cp0 := Cop0.reset
  fgr := Vector.replicate 32 0
  fcr0 := Config.fcr0Value
  fcr31 := 0
  llbit := false
  stop := false
  tlb := Vector.replicate 32 TlbEntry.zero
  time := 0
  queue := []
  mem := []
  notRam := []
  port := []
  freeCount := 0

end Sys2Proof.Machine
end

