-- ==== Sys2Proof/Machine/Ops.lean ====
section
/-! DEFINITION. The named operations every meaning is written over: physical memory, registers, the TLB and translation, taking
an exception and returning from one, the timer and the event queue, and how an instruction ends. -/

namespace Sys2Proof.Machine

/-! ### Physical memory (R81, R82, R85) -/

/-- What a byte that memory does not list reads as (log 5: DESIGN CHOICE, unsafe). -/
def unlistedByte : Byte := 0

/-- The byte at physical address `a`. -/
def Memory.readByte : Memory → Nat → Byte
  | [], _ => unlistedByte
  | (k, v) :: rest, a => if a = k then v else Memory.readByte rest a

/-- Put an entry before the first one of a higher address. -/
def Memory.insertCell (a : Nat) (v : Byte) : Memory → Memory
  | [] => [(a, v)]
  | (k, w) :: rest => if a < k then (a, v) :: (k, w) :: rest else (k, w) :: Memory.insertCell a v rest

/-- Write the byte at physical address `a`, keeping the canonical form. -/
def Memory.writeByte (m : Memory) (a : Nat) (v : Byte) : Memory :=
  let others := m.filter (fun c => c.1 != a)
  if v = unlistedByte then others else Memory.insertCell a v others

/-- The canonical form: addresses strictly rising, no entry equal to what an unlisted address reads as. -/
def Memory.wf (m : Memory) : Bool :=
  decide (m.Pairwise (fun c d => c.1 < d.1)) && m.all (fun c => c.2 != unlistedByte)

/-- The value of `n` bytes (R82): byte 0 in the most significant position, in the low `8n` bits. -/
def assembleBytes (byte : Nat → Byte) : Nat → Dword
  | 0 => 0
  | n + 1 => (assembleBytes byte n <<< 8) ||| (byte n).setWidth 64

/-- Byte `k` of an `n`-byte value, byte 0 the most significant (R82). -/
def byteOf (v : Dword) (n k : Nat) : Byte := (v >>> (8 * (n - 1 - k))).setWidth 8

/-- The low `8n` bits of a value. -/
def lowBytes (n : Nat) (v : Dword) : Dword := assembleBytes (byteOf v n) n

/-- Write, of the `n` bytes from `a`, those at the addresses that `ram` holds of: the low `8n` bits of `v`, the most significant byte
at `a` (R82). -/
def Memory.writeWhere (ram : Nat → Bool) (m : Memory) (a : Nat) (v : Dword) : Nat → Memory
  | 0 => m
  | n + 1 =>
    let rest := Memory.writeWhere ram m a (v >>> 8) n
    if ram (a + n) then rest.writeByte (a + n) (v.setWidth 8) else rest

/-- The physical address is in the region. -/
def Region.holds (r : Region) (a : Nat) : Bool := decide (r.base ≤ a) && decide (a < r.base + r.size)

/-- The platform declares the byte to be RAM (R85, log 6). -/
def State.isRam (s : State) (a : Nat) : Bool := s.notRam.all (fun r => !r.holds a)

/-- All `n` bytes from `a` are RAM. -/
def State.allRam (s : State) (a n : Nat) : Bool := (List.range n).all (fun k => s.isRam (a + k))

/-- Byte `k` of the answer to `PhysRead(pa, n)` (R85): RAM gives the byte last written there, the platform gives any other (log 30). -/
def State.answerByte (s : State) (pa : Word) (n k : Nat) : Byte :=
  if s.isRam (pa.toNat + k) then s.mem.readByte (pa.toNat + k) else byteOf (Config.physRead s.port s.time pa n) n k

/-- `PhysRead(pa, n)` (R85). -/
def State.physRead (s : State) (pa : Word) (n : Nat) : Dword := assembleBytes (s.answerByte pa n) n

/-- The port transactions after one of `n` bytes at `pa`: RAM is no transaction with the platform (log 30). -/
def State.portAfter (s : State) (pa : Word) (n : Nat) (ev : PortEvent) : List PortEvent :=
  if s.allRam pa.toNat n then s.port else ev :: s.port

/-- The state after `PhysRead(pa, n)` (R85, log 30). -/
def State.afterRead (s : State) (pa : Word) (n : Nat) : State :=
  { s with port := s.portAfter pa n (.read s.time pa n (s.physRead pa n)) }

/-- The state after the platform has taken its part of `PhysWrite(pa, n, v)` (R85): of a write that is not all RAM the port transcript
keeps the transaction (log 30). -/
def State.afterWrite (s : State) (pa : Word) (n : Nat) (v : Dword) : State :=
  { s with port := s.portAfter pa n (.write s.time pa n (lowBytes n v)) }

/-- `PhysWrite(pa, n, v)` (R85): the RAM among the bytes takes the low `8n` bits of `v`; the platform takes what is not RAM,
of which memory keeps nothing (log 30). -/
def State.physWrite (s : State) (pa : Word) (n : Nat) (v : Dword) : State :=
  { s.afterWrite pa n v with mem := s.mem.writeWhere s.isRam pa.toNat v n }

/-! ### Registers -/

/-- `x[i]` (R21, R22): register 0 reads as zero. -/
def State.readX (s : State) (i : RegNum) : Dword := if i = 0 then 0 else s.x[i.toNat]'i.isLt

/-- `x[i] <- v` (R22): a write to register 0 is discarded. -/
def State.writeX (s : State) (i : RegNum) (v : Dword) : State :=
  if i = 0 then s else { s with x := s.x.set i.toNat v i.isLt }

/-- `x[i][31:0]` (R201). -/
def State.readW (s : State) (i : RegNum) : Word := low32 (s.readX i)

/-- `(lo, hi) <- (l, h)` (R250). -/
def State.writeLoHi (s : State) (l h : Dword) : State := { s with lo := l, hi := h }

/-- `cp0[n]` (R30): the raw cell, and none for Random, which is not stored (R32). -/
def Cop0.read (c : Cop0) (n : RegNum) : Option Word :=
  match n.toNat with
  | 0 => some c.index
  | 1 => none
  | 2 => some c.entryLo0
  | 3 => some c.entryLo1
  | 4 => some c.context
  | 5 => some c.pageMask
  | 6 => some c.wired
  | 7 => some c.reg7
  | 8 => some c.badVAddr
  | 9 => some c.count
  | 10 => some c.entryHi
  | 11 => some c.compare
  | 12 => some c.status
  | 13 => some c.cause
  | 14 => some c.epc
  | 15 => some c.prid
  | 16 => some c.config
  | 17 => some c.llAddr
  | 18 => some c.watchLo
  | 19 => some c.watchHi
  | 20 => some c.xContext
  | 21 => some c.reg21
  | 22 => some c.reg22
  | 23 => some c.reg23
  | 24 => some c.reg24
  | 25 => some c.reg25
  | 26 => some c.pErr
  | 27 => some c.cacheErr
  | 28 => some c.tagLo
  | 29 => some c.tagHi
  | 30 => some c.errorEpc
  | _ => some c.reg31

/-- A bit of Status (R41). -/
def State.statusBit (s : State) (k : Nat) : Bool := s.cp0.status.getLsbD k

/-- Status.IE (R41). -/
def State.ie (s : State) : Bool := s.statusBit 0
/-- Status.EXL (R41). -/
def State.exl (s : State) : Bool := s.statusBit 1
/-- Status.ERL (R41). -/
def State.erl (s : State) : Bool := s.statusBit 2
/-- Status.KSU (R41). -/
def State.ksu (s : State) : BitVec 2 := s.cp0.status.extractLsb' 3 2
/-- Status.BEV (R41). -/
def State.bev (s : State) : Bool := s.statusBit 22
/-- Status.FR (R41). -/
def State.fr (s : State) : Bool := s.statusBit 26
/-- Status.CU0 (R41). -/
def State.cu0 (s : State) : Bool := s.statusBit 28
/-- Status.CU1 (R41). -/
def State.cu1 (s : State) : Bool := s.statusBit 29

/-- `KernelMode()` (R560). -/
def State.kernelMode (s : State) : Bool := s.exl || s.erl || s.ksu == 0

/-- `Cop0Usable()` (R360). -/
def State.cop0Usable (s : State) : Bool := s.kernelMode || s.cu0

/-- The bits of `old` outside `mask`, those of `new` inside. -/
def replaceBits (mask new old : Word) : Word := (new &&& mask) ||| (old &&& ~~~mask)

/-! ### The TLB and translation (R88 to R98) -/

/-- The virtual range of one valid installable half, its physical base and whether it may be written (R90). -/
structure PageRange where
  start : Nat
  size : Nat
  frame : Nat
  dirty : Bool
deriving DecidableEq, Repr

/-- The number of 1 bits in a page mask (R90). -/
def maskOnes (m : BitVec 12) : Nat := ((List.range 12).filter (fun k => m.getLsbD k)).length

/-- `size`: the bytes of one half (R90). -/
def TlbEntry.pageSize (e : TlbEntry) : Nat := 4096 * 2 ^ maskOnes e.mask

/-- `~m19`: the VPN2 bits that are compared (R90). -/
def TlbEntry.tagMask (e : TlbEntry) : BitVec 19 := ~~~(e.mask.setWidth 19)

/-- `Covers(e, va)` (R90); V bits are not looked at. -/
def TlbEntry.covers (e : TlbEntry) (va : Word) : Bool :=
  (va.extractLsb' 13 19 &&& e.tagMask) == (e.vpn2 &&& e.tagMask)

/-- `start_even`, `start_odd` (R90). -/
def TlbEntry.halfStart (e : TlbEntry) (odd : Bool) : Nat :=
  (e.vpn2 &&& e.tagMask).toNat * 8192 + (if odd then e.pageSize else 0)

/-- A half of an entry. -/
def TlbEntry.half (e : TlbEntry) (odd : Bool) : TlbHalf := if odd then e.odd else e.even

/-- `Installable(e, h)` (R90, R93): the frame lies under 512 MiB and the half is not in the unmapped window. -/
def TlbEntry.installable (e : TlbEntry) (odd : Bool) : Bool :=
  decide ((e.half odd).pfn.toNat < 0x20000) &&
    !(decide (0x80000000 ≤ e.halfStart odd) && decide (e.halfStart odd + e.pageSize ≤ 0xC0000000))

/-- What one half contributes to the look-up tables (R91). -/
def TlbEntry.halfRange (e : TlbEntry) (odd : Bool) : List PageRange :=
  if (e.half odd).valid && e.installable odd then
    [{ start := e.halfStart odd, size := e.pageSize, frame := (e.half odd).pfn.toNat * 4096, dirty := (e.half odd).dirty }]
  else []

/-- What an entry contributes to the look-up tables (R91). -/
def TlbEntry.ranges (e : TlbEntry) : List PageRange := e.halfRange false ++ e.halfRange true

/-- The page `p` lies in the range. -/
def PageRange.holds (r : PageRange) (p : BitVec 20) : Bool :=
  decide (r.start ≤ p.toNat * 4096) && decide (p.toNat * 4096 < r.start + r.size)

/-- The physical address of the 4 KiB page `p` of the range (R91). -/
def PageRange.base (r : PageRange) (p : BitVec 20) : Word := BitVec.ofNat 32 (r.frame + (p.toNat * 4096 - r.start))

/-- The two ranges share a byte; page ranges are multiples of 4 KiB, so they then share a page. -/
def PageRange.overlaps (a b : PageRange) : Bool :=
  decide (a.start < b.start + b.size) && decide (b.start < a.start + a.size)

/-- All contributions of a TLB, by slot. -/
def tlbRanges (t : Vector TlbEntry 32) : List PageRange := t.toList.flatMap TlbEntry.ranges

/-- `LUT_r[p]` (R91): the base of the page, none for `unmapped`. With a consistent TLB at most one range holds the page
(log 23). -/
def lutRead (t : Vector TlbEntry 32) (p : BitVec 20) : Option Word :=
  ((tlbRanges t).find? (fun r => r.holds p)).map (fun r => r.base p)

/-- `LUT_w[p]` (R92): as `LUT_r` with D = 1. -/
def lutWrite (t : Vector TlbEntry 32) (p : BitVec 20) : Option Word :=
  ((tlbRanges t).find? (fun r => r.dirty && r.holds p)).map (fun r => r.base p)

/-- The seven legal values of Mask (R35). -/
def legalMask (m : BitVec 12) : Bool :=
  [0x000#12, 0x003#12, 0x00F#12, 0x03F#12, 0x0FF#12, 0x3FF#12, 0xFFF#12].contains m

/-- A valid half's frame is aligned to the page size (R98 b). -/
def TlbEntry.frameAligned (e : TlbEntry) (odd : Bool) : Bool :=
  !(e.half odd).valid || ((e.half odd).pfn &&& e.mask.setWidth 24) == 0

/-- Conditions (a) and (b) of R98 for one slot. -/
def TlbEntry.wellFormed (e : TlbEntry) : Bool :=
  !(e.even.valid || e.odd.valid) || (legalMask e.mask && e.frameAligned false && e.frameAligned true)

/-- No page of one slot's ranges lies in another slot's. -/
def slotsDisjoint (a b : List PageRange) : Bool := a.all (fun r => b.all (fun q => !r.overlaps q))

/-- Condition (c) of R98: different slots' ranges are disjoint. -/
def allDisjoint : List (List PageRange) → Bool
  | [] => true
  | a :: rest => rest.all (fun b => slotsDisjoint a b) && allDisjoint rest

/-- `TLBConsistent()` (R98). -/
def tlbConsistent (t : Vector TlbEntry 32) : Bool :=
  t.toList.all TlbEntry.wellFormed && allDisjoint (t.toList.map TlbEntry.ranges)

/-- What an access gives: a value, an exception to take, or a refusal. -/
inductive Access (α : Type) where
  | ok (a : α)
  | raise (e : Exc)
  | refuse (r : Refusal)
deriving DecidableEq, Repr

/-- The unmapped window 0x80000000..0xBFFFFFFF (R88). -/
def inWindow (va : Word) : Bool := va.extractLsb' 30 2 == 2

/-- The look-up table of a direction: a fetch uses the read table (R89). -/
def State.lut (s : State) (dir : Direction) (p : BitVec 20) : Option Word :=
  if dir = .store then lutWrite s.tlb p else lutRead s.tlb p

/-- `Translate(va, dir)` (R89): the physical address. ASID, G and C are not consulted (R97, R99), nor is the mode (R88). -/
def State.translate (s : State) (dir : Direction) (va : Word) : Access Word :=
  if inWindow va then .ok (va &&& 0x1FFFFFFF#32)
  else if tlbConsistent s.tlb then
    match s.lut dir (va.extractLsb' 12 20) with
    | none => .raise (.tlbMiss dir va)
    | some base => .ok (base ||| (va &&& 0xFFF#32))
  else .refuse .tlbInconsistent

/-- `MemRead(va, n)` (R83): the value in the low `8n` bits, and the state after the read. -/
def State.memRead (s : State) (va : Word) (n : Nat) : Access (Dword × State) :=
  match s.translate .load va with
  | .ok pa => .ok (s.physRead pa n, s.afterRead pa n)
  | .raise e => .raise e
  | .refuse r => .refuse r

/-- `MemWrite(va, n, v)` (R84): the state with the bytes written. -/
def State.memWrite (s : State) (va : Word) (n : Nat) (v : Dword) : Access State :=
  match s.translate .store va with
  | .ok pa => .ok (s.physWrite pa n v)
  | .raise e => .raise e
  | .refuse r => .refuse r

/-- `Fetch(va)` (R86): the word, and the state after the read. -/
def State.fetch (s : State) (va : Word) : Access (Word × State) :=
  if va.extractLsb' 0 2 = 0 then
    match s.translate .fetch va with
    | .ok pa => .ok (low32 (s.physRead pa 4), s.afterRead pa 4)
    | .raise e => .raise e
    | .refuse r => .refuse r
  else .raise (.addressError .fetch va)

/-- The entry TLBWrite forms from EntryHi, EntryLo0, EntryLo1 and PageMask (R94). -/
def Cop0.tlbEntry (c : Cop0) : TlbEntry :=
  let half (lo : Word) : TlbHalf :=
    { pfn := lo.extractLsb' 6 24, cache := lo.extractLsb' 3 3, dirty := lo.getLsbD 2, valid := lo.getLsbD 1 }
  { mask := c.pageMask.extractLsb' 13 12
    vpn2 := c.entryHi.extractLsb' 13 19
    asid := c.entryHi.extractLsb' 0 8
    global := c.entryLo0.getLsbD 0 && c.entryLo1.getLsbD 0
    even := half c.entryLo0
    odd := half c.entryLo1 }

/-- `tlb[i]`. -/
def State.readTlb (s : State) (i : BitVec 5) : TlbEntry := s.tlb[i.toNat]'i.isLt

/-- `TLBWrite(i)` (R94). -/
def State.tlbWrite (s : State) (i : BitVec 5) : State := { s with tlb := s.tlb.set i.toNat s.cp0.tlbEntry i.isLt }

/-- The EntryLo register that TLBR reads back from a half (R363). -/
def TlbEntry.entryLo (e : TlbEntry) (odd : Bool) : Word :=
  0#2 ++ (e.half odd).pfn ++ (e.half odd).cache ++ BitVec.ofBool (e.half odd).dirty ++ BitVec.ofBool (e.half odd).valid ++
    BitVec.ofBool e.global

/-- The registers TLBR writes from an entry (R363). -/
def Cop0.loadEntry (c : Cop0) (e : TlbEntry) : Cop0 :=
  { c with
    pageMask := 0#7 ++ e.mask ++ 0#13
    entryHi := e.vpn2 ++ 0#5 ++ e.asid
    entryLo0 := e.entryLo false
    entryLo1 := e.entryLo true }

/-- The condition of TLBP for one entry (R366): the tag compared under the entry's mask, the ASID unless G = 1. -/
def TlbEntry.probeMatches (e : TlbEntry) (entryHi : Word) : Bool :=
  (e.vpn2 &&& e.tagMask) == (entryHi.extractLsb' 13 19 &&& e.tagMask) && (e.global || e.asid == entryHi.extractLsb' 0 8)

/-- The lowest slot that TLBP matches, counting from `k` (R366). -/
def probeFrom (entryHi : Word) : Nat → List TlbEntry → Option Nat
  | _, [] => none
  | k, e :: rest => if e.probeMatches entryHi then some k else probeFrom entryHi (k + 1) rest

/-! ### Floating-point register views (R55 to R58) -/

/-- `fgr[i]`. -/
def State.readFgr (s : State) (i : RegNum) : Dword := s.fgr[i.toNat]'i.isLt

/-- `fgr[i] <- v`. -/
def State.writeFgr (s : State) (i : RegNum) (v : Dword) : State := { s with fgr := s.fgr.set i.toNat v i.isLt }

/-- The register number is odd (R57). -/
def oddReg (i : RegNum) : Bool := i.getLsbD 0

/-- The even register of the pair `i` belongs to (R57). -/
def pairBase (i : RegNum) : RegNum := i &&& 0x1E#5

/-- The single view `S[i]` under a given FR (R56, R57). -/
def State.readSUnder (s : State) (fr : Bool) (i : RegNum) : Word :=
  if fr || !oddReg i then low32 (s.readFgr i) else (s.readFgr (pairBase i)).extractLsb' 32 32

/-- `S[i]` (R56, R57). -/
def State.readS (s : State) (i : RegNum) : Word := s.readSUnder s.fr i

/-- `S[i] <- v` (R56, R57): exactly the bits the view names. -/
def State.writeS (s : State) (i : RegNum) (v : Word) : State :=
  if s.fr || !oddReg i then s.writeFgr i ((s.readFgr i).extractLsb' 32 32 ++ v)
  else s.writeFgr (pairBase i) (v ++ low32 (s.readFgr (pairBase i)))

/-- `D[i]` is a valid operand (R57): not an odd number with FR = 0. -/
def State.validD (s : State) (i : RegNum) : Bool := s.fr || !oddReg i

/-- `D[i]`, for a valid operand (R56, R57). -/
def State.readD (s : State) (i : RegNum) : Dword := s.readFgr i

/-- `D[i] <- v`, for a valid operand (R56, R57). -/
def State.writeD (s : State) (i : RegNum) (v : Dword) : State := s.writeFgr i v

/-- The register file after `ReshuffleFPR()` to `newFr` (R58), register by register: every single view keeps its value, and
the bits no view fixes are free (log 18). -/
def State.reshuffled (s : State) (newFr : Bool) (k : Nat) : Dword :=
  let single (j : Nat) : Word := s.readSUnder (!newFr) (BitVec.ofNat 5 j)
  if newFr then (Config.freeFgr s.freeCount k).extractLsb' 32 32 ++ single k
  else if k % 2 = 0 then single (k + 1) ++ single k
  else Config.freeFgr s.freeCount k

/-- A vector of 32 registers from its values. -/
def tabulate32 (f : Nat → Dword) : Vector Dword 32 := ⟨((List.range 32).map f).toArray, by simp⟩

/-- `ReshuffleFPR()` (R58), toward FR = `newFr`. -/
def State.reshuffle (s : State) (newFr : Bool) : State :=
  { s with fgr := tabulate32 (s.reshuffled newFr), freeCount := s.freeCount + 1 }

/-! ### Taking an exception and returning from one (R541 to R546, R368) -/

/-- Cause.ExcCode (R541). -/
def excCode : Exc → BitVec 5
  | .interrupt => 0
  | .tlbMiss dir _ => if dir = .store then 3 else 2
  | .addressError dir _ => if dir = .store then 5 else 4
  | .syscall => 8
  | .breakpoint => 9
  | .coprocessorUnusable _ => 11
  | .integerOverflow => 12
  | .trap => 13

/-- BadVAddr after entry (R544, R545). -/
def entryBadVAddr (e : Exc) (old : Word) : Word :=
  match e with
  | .tlbMiss _ va => va
  | .addressError _ va => va
  | _ => old

/-- Context after entry (R544): BadVPN2 in bits 22:4. -/
def entryContext (e : Exc) (old : Word) : Word :=
  match e with
  | .tlbMiss _ va => replaceBits 0x007FFFF0#32 (va >>> 9) old
  | _ => old

/-- EntryHi after entry (R544): VPN2 in bits 31:13. -/
def entryEntryHi (e : Exc) (old : Word) : Word :=
  match e with
  | .tlbMiss _ va => replaceBits 0xFFFFE000#32 va old
  | _ => old

/-- Cause with CE and ExcCode written (R542). -/
def entryCode (e : Exc) (old : Word) : Word :=
  let ce := match e with
    | .coprocessorUnusable n => replaceBits 0x30000000#32 (n.setWidth 32 <<< 28) old
    | _ => old
  replaceBits 0x0000007C#32 ((excCode e).setWidth 32 <<< 2) ce

/-- No slot covers the address (R542), the condition of the refill vector. -/
def State.refillMiss (s : State) (e : Exc) : Bool :=
  match e with
  | .tlbMiss _ va => s.tlb.toList.all (fun t => !t.covers va)
  | _ => false

/-- The vector (R542, R543). -/
def State.entryVector (s : State) (e : Exc) : Word :=
  (if s.bev then 0xBFC00200#32 else 0x80000000#32) + (if !s.exl && s.refillMiss e then 0x000#32 else 0x180#32)

/-- COP0 after entry (R542): EPC and BD are written only when EXL was 0. -/
def State.entryCop0 (s : State) (e : Exc) : Cop0 :=
  { s.cp0 with
    badVAddr := entryBadVAddr e s.cp0.badVAddr
    context := entryContext e s.cp0.context
    entryHi := entryEntryHi e s.cp0.entryHi
    cause :=
      if s.exl then entryCode e s.cp0.cause
      else replaceBits 0x80000000#32 (if s.ds then 0x80000000#32 else 0) (entryCode e s.cp0.cause)
    epc := if s.exl then s.cp0.epc else if s.ds then s.pc - 4 else s.pc
    status := s.cp0.status ||| 0x00000002#32 }

/-- `ExceptionEntry(E)` (R542): taken for the instruction at `pc`; nothing else changes. -/
def State.exceptionEntry (s : State) (e : Exc) : State :=
  { s with
    cp0 := s.entryCop0 e
    pc := s.entryVector e
    npc := s.entryVector e + 4
    ds := false }

/-- The return from an exception (R368): EXL and LLbit cleared, control to EPC with no delay slot. -/
def State.exceptionReturn (s : State) : State :=
  { s with
    cp0 := { s.cp0 with status := s.cp0.status &&& ~~~0x00000002#32 }
    llbit := false
    pc := s.cp0.epc
    npc := s.cp0.epc + 4
    ds := false }

/-! ### Timer, events, interrupts (R557 to R566) -/

/-- `AdvanceTime()` (R562, R563). -/
def State.advanceTime (s : State) : State :=
  { s with
    cp0 := { s.cp0 with
      count := s.cp0.count + BitVec.ofNat 32 Config.countPerOp
      cause :=
        if (s.cp0.compare - s.cp0.count - 1).toNat < Config.countPerOp then s.cp0.cause ||| 0x00008000#32
        else s.cp0.cause }
    time := s.time + Config.countPerOp }

/-- Cause after one event: `Cause[14:10] <- (Cause[14:10] | set) & ~clear` (R565). -/
def Event.apply (cause : Word) (ev : Event) : Word :=
  (cause ||| (ev.set.setWidth 32 <<< 10)) &&& ~~~(ev.clear.setWidth 32 <<< 10)

/-- Insert an event before the first whose deadline is not lower. -/
def insertByDeadline (ev : Event) : List Event → List Event
  | [] => [ev]
  | o :: rest => if ev.deadline ≤ o.deadline then ev :: o :: rest else o :: insertByDeadline ev rest

/-- Events in increasing deadline, equal deadlines in the order scheduled (R565). -/
def sortByDeadline (evs : List Event) : List Event := evs.foldr insertByDeadline []

/-- The delivery part of `Boundary()` (R565): every due event, then it leaves the queue. -/
def State.deliverEvents (s : State) : State :=
  { s with
    cp0 := { s.cp0 with
      cause := (sortByDeadline (s.queue.filter (fun ev => ev.deadline ≤ s.time))).foldl Event.apply s.cp0.cause }
    queue := s.queue.filter (fun ev => !decide (ev.deadline ≤ s.time)) }

/-- `InterruptEnabledAndPending()` (R558). -/
def State.interruptPending (s : State) : Bool :=
  s.ie && !s.exl && !s.erl && (s.cp0.cause.extractLsb' 8 8 &&& s.cp0.status.extractLsb' 8 8) != 0

/-! ### What the outside world does between instructions (R566, R572, R600; `step` calls none of these, log 21) -/

/-- Status after reset: ERL = BEV = 1, SR = TS = RP = 0 (R601), the other bits unspecified (R602). -/
def resetStatus (free : Word) : Word := replaceBits 0x08700004#32 0x00400004#32 free

/-- COP0 after reset (R601): `free` gives what R602 leaves unspecified. -/
def Cop0.resetFrom (free : Cop0) : Cop0 :=
  { free with status := resetStatus free.status, wired := 0, prid := Config.pridValue, config := Config.configReset }

/-- The reset input (R600), at an instruction boundary or on a halted block: the state R601 to R604 give. `free` supplies every value
R602 and R604 leave unspecified, so a claim holds for all of them; physical memory and the rest of the platform's part stay as they
are (DESIGN CHOICE, log 31). -/
def State.hostReset (s free : State) : State :=
  { free with
    x := free.x.set 0 0
    pc := 0xBFC00000#32
    npc := 0xBFC00004#32
    ds := false
    cp0 := free.cp0.resetFrom
    fcr0 := Config.fcr0Value
    stop := false
    time := 0
    queue := []
    mem := s.mem
    notRam := s.notRam
    port := .reset s.time :: s.port
    freeCount := s.freeCount }

/-- `Schedule(delay, set, clear)` by the platform (R566). -/
def State.schedule (s : State) (delay : Nat) (set clear : BitVec 5) : State :=
  { s with queue := s.queue ++ [{ deadline := s.time + delay, set := set, clear := clear }] }

/-- The platform removes events it scheduled (R566). -/
def State.cancelEvents (s : State) (which : Event → Bool) : State :=
  { s with queue := s.queue.filter (fun ev => !which ev) }

/-- The platform, or the host through it, writes a byte of RAM (R115, R572); addresses at or above 512 MiB do not
exist (R81). -/
def State.platformWrite (s : State) (a : Nat) (v : Byte) : State :=
  if a < 0x20000000 then { s with mem := s.mem.writeByte a v } else s

/-! ### How an instruction ends (R26, R311 to R313, R540) -/

/-- The outcome of an instruction or of a step. -/
abbrev Result := Host.Outcome State Fault Refusal

/-- The sequential default of R26: `next_pc = npc`, `next_npc = npc + 4`, `next_ds = 0`. -/
def State.advance (s : State) : State := { s with pc := s.npc, npc := s.npc + 4, ds := false }

/-- `Branch(t)` (R311): the delay slot runs, then control goes to `t`. -/
def State.branchTo (s : State) (t : Word) : State := { s with pc := s.npc, npc := t, ds := true }

/-- `NoBranch()` (R312): the delay slot runs as one, then execution is sequential. -/
def State.noBranch (s : State) : State := { s with pc := s.npc, npc := s.npc + 4, ds := true }

/-- `Nullify()` (R313): the delay slot is skipped. -/
def State.nullify (s : State) : State := { s with pc := s.npc + 4, npc := s.npc + 8, ds := false }

/-- The instruction completes with these writes, sequentially. -/
def finish (s : State) : Result := .next s.advance

/-- The instruction raises: exception entry on the state before it (R10, R540). -/
def raise (s : State) (e : Exc) : Result := .next (s.exceptionEntry e)

/-- The instruction halts (R552). -/
def halt (c : HaltCause) : Result := .fault (.halt c)

/-- Go on with the value of an access, or raise, or refuse. -/
def withAccess {α : Type} (s : State) (a : Access α) (k : α → Result) : Result :=
  match a with
  | .ok v => k v
  | .raise e => raise s e
  | .refuse r => .refused r

/-- The check every COP0 instruction begins with (R360). -/
def whenCop0 (s : State) (k : Result) : Result := if s.cop0Usable then k else raise s (.coprocessorUnusable 0)

/-- The check every COP1 instruction begins with (R400). -/
def whenCop1 (s : State) (k : Result) : Result := if s.cu1 then k else raise s (.coprocessorUnusable 1)

/-- A double-view operand must be valid (R57), tested where the pseudocode reads or writes the view (R554). -/
def whenD (s : State) (i : RegNum) (k : Result) : Result := if s.validD i then k else .refused .oddDouble

/-- Jumps, branches and ERET refuse in a delay slot, before any other check (R624). -/
def whenNotDelaySlot (s : State) (k : Result) : Result := if s.ds then .refused .branchInDelaySlot else k

end Sys2Proof.Machine
end

