-- ==== Sys2Proof/Machine/Operands.lean ====
section
/-! DEFINITION. Operand forms: immediates (R142, R143), effective addresses (R270), branch and jump targets (R144, R145), link
values, shift amounts (R146), and the aligned and unaligned accesses built on them. -/

namespace Sys2Proof.Machine

/-- `sext_64(imm16)` (R142). -/
def immS (imm : Half) : Dword := imm.signExtend 64

/-- `zext_64(imm16)` (R143). -/
def immZ (imm : Half) : Dword := imm.setWidth 64

/-- `sext_64(imm16 :: 0x0000)` (R143). -/
def immUpper (imm : Half) : Dword := sext64 (imm ++ 0#16)

/-- `EA := (x[base] + sext_64(imm16))[31:0]` (R270, R80). -/
def State.effAddr (s : State) (base : RegNum) (imm : Half) : Word := low32 (s.readX base + immS imm)

/-- The branch target `(pc + 4 + sext_32(imm16 :: 0b00))[31:0]` (R144). -/
def State.branchTarget (s : State) (imm : Half) : Word := s.pc + 4 + (imm ++ 0#2).signExtend 32

/-- The jump target `(pc + 4)[31:28] :: target26 :: 0b00` (R145). -/
def State.jumpTarget (s : State) (target : BitVec 26) : Word := (s.pc + 4).extractLsb' 28 4 ++ target ++ 0#2

/-- The link value `sext_64((pc + 8)[31:0])` (R315). -/
def State.linkValue (s : State) : Dword := sext64 (s.pc + 8)

/-- `x[rs][4:0]` (R146). -/
def State.shift5 (s : State) (rs : RegNum) : Nat := ((s.readX rs).extractLsb' 0 5).toNat

/-- `x[rs][5:0]` (R146). -/
def State.shift6 (s : State) (rs : RegNum) : Nat := ((s.readX rs).extractLsb' 0 6).toNat

/-- `va` is a multiple of `n` (R87). -/
def alignedTo (n : Nat) (va : Word) : Bool := va.toNat % n == 0

/-- The alignment test of an access of `n` bytes at `ea`, before anything else the access does (R87). -/
def whenAligned (s : State) (dir : Direction) (ea : Word) (n : Nat) (k : Result) : Result :=
  if alignedTo n ea then k else raise s (.addressError dir ea)

/-- A load with no alignment test (R83): `k` takes the value and the state after the read. -/
def loadAny (s : State) (va : Word) (n : Nat) (k : Dword → State → Result) : Result :=
  withAccess s (s.memRead va n) fun r => k r.1 r.2

/-- An aligned load of `n` bytes at `ea` (R87, R270): alignment first, then translation, then the read. -/
def loadAt (s : State) (ea : Word) (n : Nat) (k : Dword → State → Result) : Result :=
  whenAligned s .load ea n (loadAny s ea n k)

/-- An aligned store of `n` bytes at `ea` (R87, R270): alignment first, then translation, then the write. -/
def storeAt (s : State) (ea : Word) (n : Nat) (v : Dword) (k : State → Result) : Result :=
  whenAligned s .store ea n (withAccess s (s.memWrite ea n v) k)

/-- An unaligned-access store (R286 to R289): no alignment check. -/
def storeAny (s : State) (va : Word) (n : Nat) (v : Dword) : Result := withAccess s (s.memWrite va n v) finish

/-- The offset of `ea` in its aligned word (R278). -/
def inWord (ea : Word) : Nat := (ea.extractLsb' 0 2).toNat

/-- The offset of `ea` in its aligned doubleword (R280). -/
def inDword (ea : Word) : Nat := (ea.extractLsb' 0 3).toNat

/-- `EA & 0xFFFFFFFC`. -/
def wordBase (ea : Word) : Word := ea &&& 0xFFFFFFFC#32

/-- `EA & 0xFFFFFFF8`. -/
def dwordBase (ea : Word) : Word := ea &&& 0xFFFFFFF8#32

/-- The merge of LWL (R278): the memory word's bytes from `b` on fill the top, the register keeps its low `b` bytes. -/
def mergeLeft32 (b : Nat) (mem old : Word) : Word := (mem <<< (8 * b)) ||| (old &&& ~~~(0xFFFFFFFF#32 <<< (8 * b)))

/-- The merge of LWR (R279): the memory word's bytes up to `b` fill the bottom, the register keeps the rest. -/
def mergeRight32 (b : Nat) (mem old : Word) : Word :=
  (mem >>> (8 * (3 - b))) ||| (old &&& ~~~(0xFFFFFFFF#32 >>> (8 * (3 - b))))

/-- The merge of LDL (R280). -/
def mergeLeft64 (b : Nat) (mem old : Dword) : Dword :=
  (mem <<< (8 * b)) ||| (old &&& ~~~(0xFFFFFFFFFFFFFFFF#64 <<< (8 * b)))

/-- The merge of LDR (R281). -/
def mergeRight64 (b : Nat) (mem old : Dword) : Dword :=
  (mem >>> (8 * (7 - b))) ||| (old &&& ~~~(0xFFFFFFFFFFFFFFFF#64 >>> (8 * (7 - b))))

/-- The instruction writes one general register and completes. -/
def writeBack (s : State) (rd : RegNum) (v : Dword) : Result := finish (s.writeX rd v)

/-- A conditional branch that is not a likely form (R311, R312); `s` holds any link already written. -/
def branchIf (s : State) (c : Bool) (t : Word) : Result := .next (if c then s.branchTo t else s.noBranch)

/-- A branch-likely (R311, R313). -/
def branchLikelyIf (s : State) (c : Bool) (t : Word) : Result := .next (if c then s.branchTo t else s.nullify)

end Sys2Proof.Machine
end

