-- ==== Sys2Proof/Machine/Flags.lean ====
section
/-! DEFINITION. Conditions: signed overflow (R547), the comparisons that set registers, branch and trap (there are no integer
flags, R61), and the condition bit C of fcr31 with the compare law (R454). -/

namespace Sys2Proof.Machine

/-- The exact integer as a `w`-bit value when it fits, none when it overflows (R547). -/
def exactSigned (w : Nat) (n : Int) : Option (BitVec w) :=
  if -(2 ^ (w - 1) : Int) ≤ n ∧ n < 2 ^ (w - 1) then some (BitVec.ofInt w n) else none

/-- A trapping addition or subtraction: the register is written, or IntegerOverflow is raised and it is not (R547). -/
def writeOrOverflow (s : State) (rd : RegNum) (v : Option Dword) : Result :=
  match v with
  | some r => writeBack s rd r
  | none => raise s .integerOverflow

/-- `zext_64(1)` or `zext_64(0)` (R205, R221). -/
def boolDword (b : Bool) : Dword := if b then 1 else 0

/-- `signed_64(a) < signed_64(b)`. -/
def ltSigned (a b : Dword) : Bool := decide (a.toInt < b.toInt)

/-- `unsigned_64(a) < unsigned_64(b)`. -/
def ltUnsigned (a b : Dword) : Bool := decide (a.toNat < b.toNat)

/-- `signed_64(a) < 0`. -/
def isNegative (a : Dword) : Bool := decide (a.toInt < 0)

/-- `signed_64(a) > 0`. -/
def isPositive (a : Dword) : Bool := decide (0 < a.toInt)

/-- A trap instruction (R548): it raises when its condition holds. -/
def trapIf (s : State) (c : Bool) : Result := if c then raise s .trap else finish s

/-- The condition bit C, `fcr31[23]` (R61). -/
def State.condition (s : State) : Bool := s.fcr31.getLsbD 23

/-- Write the condition bit; no other bit of fcr31 changes (R423, R454). -/
def State.writeCondition (s : State) (c : Bool) : State :=
  { s with fcr31 := replaceBits 0x00800000#32 (if c then 0x00800000#32 else 0) s.fcr31 }

/-- `RM`, `fcr31[1:0]` (R62). -/
def State.roundMode (s : State) : RoundMode :=
  match (s.fcr31.extractLsb' 0 2).toNat with
  | 0 => .nearest
  | 1 => .zero
  | 2 => .up
  | _ => .down

/-- The four mutually exclusive relations of two floating-point operands (R454). -/
inductive Relation where
  | less
  | equal
  | greater
  | unordered
deriving DecidableEq, Repr

/-- The OR of the relations that bits 2, 1 and 0 of the condition code select (R454). -/
def conditionHolds (cond : BitVec 4) (r : Relation) : Bool :=
  match r with
  | .less => cond.getLsbD 2
  | .equal => cond.getLsbD 1
  | .unordered => cond.getLsbD 0
  | .greater => false

/-- A compare (R454): bit 3 of the code makes an unordered pair halt; otherwise C is written. -/
def compareWith (s : State) (cond : BitVec 4) (r : Relation) : Result :=
  if cond.getLsbD 3 && r == .unordered then halt .fpInvalidOperation
  else finish (s.writeCondition (conditionHolds cond r))

end Sys2Proof.Machine
end

