-- ==== Sys2Proof/Machine/Branch.lean ====
section
/-! DEFINITION. Meanings: jumps and branches (43_branch_jump.md). -/

namespace Sys2Proof.Machine

/-- `J target`: Jump (R314). -/
def execJ (target : BitVec 26) (s : State) : Result :=
  whenNotDelaySlot s <|
    .next (s.branchTo (s.jumpTarget target))

/-- `JAL target`: Jump And Link (R315). -/
def execJal (target : BitVec 26) (s : State) : Result :=
  whenNotDelaySlot s <|
    .next ((s.writeX 31 s.linkValue).branchTo (s.jumpTarget target))

/-- `JR rs`: Jump Register (R316). -/
def execJr (rs : RegNum) (s : State) : Result :=
  whenNotDelaySlot s <|
    .next (s.branchTo (s.readW rs))

/-- `JALR rd, rs`: Jump And Link Register (R317). -/
def execJalr (rs : RegNum) (rd : RegNum) (s : State) : Result :=
  whenNotDelaySlot s <|
    .next ((s.writeX rd s.linkValue).branchTo (s.readW rs))

/-- `BEQ rs, rt, offset`: Branch on Equal (R318). -/
def execBeq (rs : RegNum) (rt : RegNum) (imm : Half) (s : State) : Result :=
  whenNotDelaySlot s <|
    branchIf s (s.readX rs == s.readX rt) (s.branchTarget imm)

/-- `BNE rs, rt, offset`: Branch on Not Equal (R319). -/
def execBne (rs : RegNum) (rt : RegNum) (imm : Half) (s : State) : Result :=
  whenNotDelaySlot s <|
    branchIf s (s.readX rs != s.readX rt) (s.branchTarget imm)

/-- `BLEZ rs, offset`: Branch on Less Than or Equal to Zero (R320). -/
def execBlez (rs : RegNum) (imm : Half) (s : State) : Result :=
  whenNotDelaySlot s <|
    branchIf s (!isPositive (s.readX rs)) (s.branchTarget imm)

/-- `BGTZ rs, offset`: Branch on Greater Than Zero (R321). -/
def execBgtz (rs : RegNum) (imm : Half) (s : State) : Result :=
  whenNotDelaySlot s <|
    branchIf s (isPositive (s.readX rs)) (s.branchTarget imm)

/-- `BEQL rs, rt, offset`: Branch on Equal Likely (R322). -/
def execBeql (rs : RegNum) (rt : RegNum) (imm : Half) (s : State) : Result :=
  whenNotDelaySlot s <|
    branchLikelyIf s (s.readX rs == s.readX rt) (s.branchTarget imm)

/-- `BNEL rs, rt, offset`: Branch on Not Equal Likely (R323). -/
def execBnel (rs : RegNum) (rt : RegNum) (imm : Half) (s : State) : Result :=
  whenNotDelaySlot s <|
    branchLikelyIf s (s.readX rs != s.readX rt) (s.branchTarget imm)

/-- `BLEZL rs, offset`: Branch on Less Than or Equal to Zero Likely (R324). -/
def execBlezl (rs : RegNum) (imm : Half) (s : State) : Result :=
  whenNotDelaySlot s <|
    branchLikelyIf s (!isPositive (s.readX rs)) (s.branchTarget imm)

/-- `BGTZL rs, offset`: Branch on Greater Than Zero Likely (R325). -/
def execBgtzl (rs : RegNum) (imm : Half) (s : State) : Result :=
  whenNotDelaySlot s <|
    branchLikelyIf s (isPositive (s.readX rs)) (s.branchTarget imm)

/-- `BLTZ rs, offset`: Branch on Less Than Zero (R326). -/
def execBltz (rs : RegNum) (imm : Half) (s : State) : Result :=
  whenNotDelaySlot s <|
    branchIf s (isNegative (s.readX rs)) (s.branchTarget imm)

/-- `BGEZ rs, offset`: Branch on Greater Than or Equal to Zero (R327). -/
def execBgez (rs : RegNum) (imm : Half) (s : State) : Result :=
  whenNotDelaySlot s <|
    branchIf s (!isNegative (s.readX rs)) (s.branchTarget imm)

/-- `BLTZL rs, offset`: Branch on Less Than Zero Likely (R328). -/
def execBltzl (rs : RegNum) (imm : Half) (s : State) : Result :=
  whenNotDelaySlot s <|
    branchLikelyIf s (isNegative (s.readX rs)) (s.branchTarget imm)

/-- `BGEZL rs, offset`: Branch on Greater Than or Equal to Zero Likely (R329). -/
def execBgezl (rs : RegNum) (imm : Half) (s : State) : Result :=
  whenNotDelaySlot s <|
    branchLikelyIf s (!isNegative (s.readX rs)) (s.branchTarget imm)

/-- `BLTZAL rs, offset`: Branch on Less Than Zero And Link (R330). -/
def execBltzal (rs : RegNum) (imm : Half) (s : State) : Result :=
  whenNotDelaySlot s <|
    branchIf (s.writeX 31 s.linkValue) (isNegative (s.readX rs)) (s.branchTarget imm)

/-- `BGEZAL rs, offset`: Branch on Greater Than or Equal to Zero And Link (R331). -/
def execBgezal (rs : RegNum) (imm : Half) (s : State) : Result :=
  whenNotDelaySlot s <|
    branchIf (s.writeX 31 s.linkValue) (!isNegative (s.readX rs)) (s.branchTarget imm)

/-- `BLTZALL rs, offset`: Branch on Less Than Zero And Link Likely (R332). -/
def execBltzall (rs : RegNum) (imm : Half) (s : State) : Result :=
  whenNotDelaySlot s <|
    branchLikelyIf (s.writeX 31 s.linkValue) (isNegative (s.readX rs)) (s.branchTarget imm)

/-- `BGEZALL rs, offset`: Branch on Greater Than or Equal to Zero And Link Likely (R333). -/
def execBgezall (rs : RegNum) (imm : Half) (s : State) : Result :=
  whenNotDelaySlot s <|
    branchLikelyIf (s.writeX 31 s.linkValue) (!isNegative (s.readX rs)) (s.branchTarget imm)

end Sys2Proof.Machine
end

