-- ==== Sys2Proof/Machine/Cop0.lean ====
section
/-! DEFINITION. Meanings: system control coprocessor (45_cop0.md). -/

namespace Sys2Proof.Machine

/-- Write the COP0 registers and complete. -/
def finishCop0 (s : State) (c : Cop0) : Result := finish { s with cp0 := c }

/-- `WriteIndex(v)` (R370). -/
def writeIndex (s : State) (v : Word) : Result :=
  if (v &&& 0x3F#32).toNat > 31 then halt .indexOutOfRange
  else finishCop0 s { s.cp0 with index := v &&& 0x8000003F#32 }

/-- `WriteStatus(v)` (R381): a change of FR reshuffles the floating-point registers. -/
def writeStatus (s : State) (v : Word) : State :=
  let t := if s.fr != v.getLsbD 26 then s.reshuffle (v.getLsbD 26) else s
  { t with cp0 := { s.cp0 with status := v } }

/-- `WriteCause(v)` (R382). -/
def writeCause (s : State) (v : Word) : Result :=
  if v = 0 then finishCop0 s { s.cp0 with cause := 0 } else halt .nonZeroCauseWrite

/-- MTC0's effect by target (R362, R370 to R391). Random, BadVAddr, PRId and CacheErr take no write. -/
def writeCop0 (s : State) (rd : RegNum) (v : Word) : Result :=
  match rd.toNat with
  | 0 => writeIndex s v
  | 1 => finish s
  | 2 => finishCop0 s { s.cp0 with entryLo0 := v &&& 0x3FFFFFFF#32 }
  | 3 => finishCop0 s { s.cp0 with entryLo1 := v &&& 0x3FFFFFFF#32 }
  | 4 => finishCop0 s { s.cp0 with context := (v &&& 0xFF800000#32) ||| (s.cp0.context &&& 0x007FFFF0#32) }
  | 5 => finishCop0 s { s.cp0 with pageMask := v &&& 0x01FFE000#32 }
  | 6 => finishCop0 s { s.cp0 with wired := v &&& 0x0000003F#32 }
  | 8 => finish s
  | 9 => finishCop0 s { s.cp0 with count := v }
  | 10 => finishCop0 s { s.cp0 with entryHi := v &&& 0xFFFFE0FF#32 }
  | 11 => finishCop0 s { s.cp0 with compare := v, cause := s.cp0.cause &&& ~~~0x00008000#32 }
  | 12 => finish (writeStatus s v)
  | 13 => writeCause s v
  | 14 => finishCop0 s { s.cp0 with epc := v }
  | 15 => finish s
  | 16 => finishCop0 s { s.cp0 with config := v }
  | 18 => finishCop0 s { s.cp0 with watchLo := v }
  | 19 => finishCop0 s { s.cp0 with watchHi := v }
  | 27 => finish s
  | 28 => finishCop0 s { s.cp0 with tagLo := v &&& 0x0FFFFFC0#32 }
  | 29 => finishCop0 s { s.cp0 with tagHi := 0 }
  | _ => halt .unknownMtc0Target

/-- `MFC0 rt, rd`: Move From System Control Coprocessor (R361). -/
def execMfc0 (rt : RegNum) (rd : RegNum) (s : State) : Result :=
  whenCop0 s <|
    match s.cp0.read rd with
    | some v => writeBack s rt (sext64 v)
    | none => halt .randomRead

/-- `MTC0 rt, rd`: Move To System Control Coprocessor (R362). -/
def execMtc0 (rt : RegNum) (rd : RegNum) (s : State) : Result :=
  whenCop0 s (writeCop0 s rd (s.readW rt))

/-- `TLBR`: Read Indexed TLB Entry (R363). -/
def execTlbr (s : State) : Result :=
  whenCop0 s (finish { s with cp0 := s.cp0.loadEntry (s.readTlb (s.cp0.index.extractLsb' 0 5)) })

/-- `TLBWI`: Write Indexed TLB Entry (R364). -/
def execTlbwi (s : State) : Result :=
  whenCop0 s (finish (s.tlbWrite (s.cp0.index.extractLsb' 0 5)))

/-- `TLBWR`: Write Random TLB Entry (R365). -/
def execTlbwr (s : State) : Result :=
  whenCop0 s <|
    if s.cp0.wired.toNat ≤ 31 then finish (s.tlbWrite (BitVec.ofNat 5 (Config.randomSlot s.cp0.count s.cp0.wired)))
    else .refused .wiredAbove31

/-- `TLBP`: Probe TLB for Matching Entry (R366). -/
def execTlbp (s : State) : Result :=
  whenCop0 s <|
    finish { s with cp0 := { s.cp0 with
      index := match probeFrom s.cp0.entryHi 0 s.tlb.toList with
        | some i => BitVec.ofNat 32 i
        | none => s.cp0.index ||| 0x80000000#32 } }

/-- `ERET`: Exception Return (R368). -/
def execEret (s : State) : Result :=
  whenNotDelaySlot s <|
    whenCop0 s (if s.exl then .next s.exceptionReturn else halt .eretWithoutException)

end Sys2Proof.Machine
end

