-- ==== Sys2Proof/Machine/Fp.lean ====
section
/-! DEFINITION. IEEE-754 binary32 and binary64 (R420), correct rounding in four directions (R421), and the exact computations
under it. A finite value is a sign, a natural magnitude and a power of two; every operation is computed exactly and rounded
once. `none` stands for the NaN cases of R422. -/

namespace Sys2Proof.Machine

/-- A format (R420): the widths of its exponent and fraction fields. -/
structure FpFormat where
  expBits : Nat
  fracBits : Nat
deriving DecidableEq, Repr

/-- binary32 (R420). -/
def single : FpFormat := ⟨8, 23⟩

/-- binary64 (R420). -/
def double : FpFormat := ⟨11, 52⟩

/-- The exponent bias (R420): 127, 1023. -/
def FpFormat.bias (f : FpFormat) : Nat := 2 ^ (f.expBits - 1) - 1

/-- The exponent of the subnormal grid (R421): -149, -1074. -/
def FpFormat.minExp (f : FpFormat) : Int := 1 - (f.bias : Int) - f.fracBits

/-- The bits of plus infinity (R420): exponent all ones, fraction zero. -/
def FpFormat.infBits (f : FpFormat) : Nat := (2 ^ f.expBits - 1) * 2 ^ f.fracBits

/-- The weight of the sign bit. -/
def FpFormat.signBit (f : FpFormat) : Nat := 2 ^ (f.expBits + f.fracBits)

/-- What a bit pattern stands for (R420). A finite value is `(-1)^neg * mag * 2^exp`; zeros keep their sign. -/
inductive FpValue where
  | nan
  | inf (neg : Bool)
  | fin (neg : Bool) (mag : Nat) (exp : Int)
deriving DecidableEq, Repr

/-- The value of a bit pattern (R420); all NaNs are alike. -/
def unpack (f : FpFormat) (bits : Nat) : FpValue :=
  let neg := decide (f.signBit ≤ bits)
  let body := bits % f.signBit
  let e := body / 2 ^ f.fracBits
  let m := body % 2 ^ f.fracBits
  if e = 2 ^ f.expBits - 1 then (if m = 0 then .inf neg else .nan)
  else if e = 0 then .fin neg m f.minExp
  else .fin neg (m + 2 ^ f.fracBits) (f.minExp + (e : Int) - 1)

/-- A sign and the bits below it. -/
def packSign (f : FpFormat) (neg : Bool) (body : Nat) : Nat := if neg then f.signBit + body else body

/-- Whether `mag / 2^d`, cut to an integer `q` with remainder `r`, goes up by one in a direction (R421): to nearest with ties
to even, or away from zero when the direction points there. -/
def roundsUp (rm : RoundMode) (neg : Bool) (q r d : Nat) : Bool :=
  match rm with
  | .nearest => decide (2 ^ d < 2 * r) || (decide (2 * r = 2 ^ d) && q % 2 == 1)
  | .zero => false
  | .up => !neg && r != 0
  | .down => neg && r != 0

/-- `mag * 2^sh` rounded to an integer magnitude in a direction (R421, R451); exact when `sh` is not negative. -/
def roundShift (rm : RoundMode) (neg : Bool) (mag : Nat) (sh : Int) : Nat :=
  match sh with
  | .ofNat k => mag * 2 ^ k
  | .negSucc k =>
    let d := k + 1
    let q := mag / 2 ^ d
    if roundsUp rm neg q (mag % 2 ^ d) d then q + 1 else q

/-- The result of an overflow (R421): infinity, or the largest finite value when the direction points away from infinity. -/
def overflowBody (f : FpFormat) (rm : RoundMode) (neg : Bool) : Nat :=
  match rm with
  | .nearest => f.infBits
  | .zero => f.infBits - 1
  | .up => if neg then f.infBits - 1 else f.infBits
  | .down => if neg then f.infBits else f.infBits - 1

/-- The exponent of the last place of the result for a magnitude `mag * 2^exp` (R421): the precision of the format, but never
below the subnormal grid. -/
def quantumExp (f : FpFormat) (mag : Nat) (exp : Int) : Int :=
  max ((Nat.log2 mag : Int) + exp - f.fracBits) f.minExp

/-- The bits below the sign of a magnitude `mag * 2^exp` rounded to the format (R421). A count `n` of units of the last place
`2^q` has the encoding `(q - minExp) * 2^fracBits + n`, subnormal, normal and carry into the next binade alike. -/
def roundBody (f : FpFormat) (rm : RoundMode) (neg : Bool) (mag : Nat) (exp : Int) : Nat :=
  if mag = 0 then 0
  else
    let q := quantumExp f mag exp
    let body := (q - f.minExp).toNat * 2 ^ f.fracBits + roundShift rm neg mag (exp - q)
    if f.infBits ≤ body then overflowBody f rm neg else body

/-- The correctly rounded encoding of `(-1)^neg * mag * 2^exp` (R421). -/
def roundTo (f : FpFormat) (rm : RoundMode) (neg : Bool) (mag : Nat) (exp : Int) : Nat :=
  packSign f neg (roundBody f rm neg mag exp)

/-- The bits of an infinity. -/
def infTo (f : FpFormat) (neg : Bool) : Nat := packSign f neg f.infBits

/-- A finite value as an integer multiple of `2^base`, for a `base` not above its exponent. -/
def signedAt (base : Int) (neg : Bool) (mag : Nat) (exp : Int) : Int :=
  let n : Int := (mag * 2 ^ (exp - base).toNat : Nat)
  if neg then -n else n

/-- Addition (R421, R424): the exact sum rounded once; an exact zero sum of unlike signs is +0, or -0 toward minus infinity. -/
def fpAdd (f : FpFormat) (rm : RoundMode) : FpValue → FpValue → Option Nat
  | .nan, _ => none
  | _, .nan => none
  | .inf a, .inf b => if a = b then some (infTo f a) else none
  | .inf a, .fin _ _ _ => some (infTo f a)
  | .fin _ _ _, .inf b => some (infTo f b)
  | .fin a m x, .fin b n y =>
    let base := min x y
    let sum := signedAt base a m x + signedAt base b n y
    let neg := if sum = 0 then (if a = b then a else rm == .down) else decide (sum < 0)
    some (roundTo f rm neg sum.natAbs base)

/-- The value with its sign inverted; subtraction adds it (R426). -/
def FpValue.negate : FpValue → FpValue
  | .nan => .nan
  | .inf a => .inf !a
  | .fin a m x => .fin (!a) m x

/-- Multiplication (R421, R428). -/
def fpMul (f : FpFormat) (rm : RoundMode) : FpValue → FpValue → Option Nat
  | .nan, _ => none
  | _, .nan => none
  | .inf a, .inf b => some (infTo f (a != b))
  | .inf a, .fin b n _ => if n = 0 then none else some (infTo f (a != b))
  | .fin a m _, .inf b => if m = 0 then none else some (infTo f (a != b))
  | .fin a m x, .fin b n y => some (roundTo f rm (a != b) (m * n) (x + y))

/-- An integer quotient with a last bit that says whether anything was cut off: it rounds as the exact quotient does, because
the rounding grid is coarser by at least two bits (log 24). -/
def stickyQuotient (n d : Nat) : Nat := 2 * (n / d) + (if n % d = 0 then 0 else 1)

/-- Division (R421, R430): 0/0 and inf/inf are invalid; a nonzero finite value over zero is an infinity. -/
def fpDiv (f : FpFormat) (rm : RoundMode) : FpValue → FpValue → Option Nat
  | .nan, _ => none
  | _, .nan => none
  | .inf _, .inf _ => none
  | .inf a, .fin b _ _ => some (infTo f (a != b))
  | .fin a _ _, .inf b => some (packSign f (a != b) 0)
  | .fin a m x, .fin b n y =>
    if n = 0 then (if m = 0 then none else some (infTo f (a != b)))
    else
      let k := f.fracBits + 4 + Nat.log2 n
      some (roundTo f rm (a != b) (stickyQuotient (m * 2 ^ k) n) (x - y - k - 1))

/-- The integer square root, one bit at a time from bit `k - 1` down. -/
def sqrtBits (n : Nat) : Nat → Nat → Nat
  | 0, r => r
  | k + 1, r => sqrtBits n k (if (r + 2 ^ k) * (r + 2 ^ k) ≤ n then r + 2 ^ k else r)

/-- The integer square root of `n`. -/
def intSqrt (n : Nat) : Nat := sqrtBits n (Nat.log2 n / 2 + 1) 0

/-- Square root (R421, R432): a negative nonzero value is invalid, sqrt(-0) is -0; the last bit is sticky as in division. -/
def fpSqrt (f : FpFormat) (rm : RoundMode) : FpValue → Option Nat
  | .nan => none
  | .inf a => if a then none else some (infTo f false)
  | .fin a m x =>
    if m = 0 then some (packSign f a 0)
    else if a then none
    else
      let k := 2 * (f.fracBits + 4) + (x % 2).toNat
      let n := m * 2 ^ k
      let r := intSqrt n
      some (roundTo f rm false (2 * r + (if r * r = n then 0 else 1)) ((x - k) / 2 - 1))

/-- Conversion between the two floating-point formats (R471, R474). -/
def fpConvert (f : FpFormat) (rm : RoundMode) : FpValue → Option Nat
  | .nan => none
  | .inf a => some (infTo f a)
  | .fin a m x => some (roundTo f rm a m x)

/-- `fp_from_int` (R453): zero converts to +0. -/
def fpFromInt (f : FpFormat) (rm : RoundMode) (i : Int) : Nat := roundTo f rm (decide (i < 0)) i.natAbs 0

/-- A finite value rounded to an integer in a direction (R451). -/
def roundToInt (rm : RoundMode) (neg : Bool) (mag : Nat) (exp : Int) : Int :=
  let n : Int := (roundShift rm neg mag exp : Nat)
  if neg then -n else n

/-- `ToInt_N` (R451): none for a NaN, an infinity and a rounded value out of range. -/
def fpToInt (w : Nat) (rm : RoundMode) : FpValue → Option (BitVec w)
  | .nan => none
  | .inf _ => none
  | .fin a m x => exactSigned w (roundToInt rm a m x)

/-- The relation of two values (R454): zeros of either sign are equal, infinities are ordered. -/
def fpRelation : FpValue → FpValue → Relation
  | .nan, _ => .unordered
  | _, .nan => .unordered
  | .inf a, .inf b => if a = b then .equal else if a then .less else .greater
  | .inf a, .fin _ _ _ => if a then .less else .greater
  | .fin _ _ _, .inf b => if b then .greater else .less
  | .fin a m x, .fin b n y =>
    let base := min x y
    let u := signedAt base a m x
    let v := signedAt base b n y
    if u < v then .less else if u = v then .equal else .greater

/-- The value of a single-precision pattern. -/
def value32 (v : Word) : FpValue := unpack single v.toNat

/-- The value of a double-precision pattern. -/
def value64 (v : Dword) : FpValue := unpack double v.toNat

/-- A single-precision result, or the NaN the configuration gives (R422). -/
def result32 (r : Option Nat) (src : NaNSource32) : Word :=
  match r with
  | some bits => BitVec.ofNat 32 bits
  | none => Config.nanResult32 src

/-- A double-precision result, or the NaN the configuration gives (R422). -/
def result64 (r : Option Nat) (src : NaNSource64) : Dword :=
  match r with
  | some bits => BitVec.ofNat 64 bits
  | none => Config.nanResult64 src

/-- `fp_add_32` (R421, R422). -/
def add32 (rm : RoundMode) (a b : Word) : Word := result32 (fpAdd single rm (value32 a) (value32 b)) (.add a b)
/-- `fp_add_64` (R421, R422). -/
def add64 (rm : RoundMode) (a b : Dword) : Dword := result64 (fpAdd double rm (value64 a) (value64 b)) (.add a b)
/-- `fp_sub_32` (R421, R422). -/
def sub32 (rm : RoundMode) (a b : Word) : Word := result32 (fpAdd single rm (value32 a) (value32 b).negate) (.sub a b)
/-- `fp_sub_64` (R421, R422). -/
def sub64 (rm : RoundMode) (a b : Dword) : Dword := result64 (fpAdd double rm (value64 a) (value64 b).negate) (.sub a b)
/-- `fp_mul_32` (R421, R422). -/
def mul32 (rm : RoundMode) (a b : Word) : Word := result32 (fpMul single rm (value32 a) (value32 b)) (.mul a b)
/-- `fp_mul_64` (R421, R422). -/
def mul64 (rm : RoundMode) (a b : Dword) : Dword := result64 (fpMul double rm (value64 a) (value64 b)) (.mul a b)
/-- `fp_div_32` (R421, R422). -/
def div32 (rm : RoundMode) (a b : Word) : Word := result32 (fpDiv single rm (value32 a) (value32 b)) (.div a b)
/-- `fp_div_64` (R421, R422). -/
def div64 (rm : RoundMode) (a b : Dword) : Dword := result64 (fpDiv double rm (value64 a) (value64 b)) (.div a b)
/-- `fp_sqrt_32` (R421, R422). -/
def sqrt32 (rm : RoundMode) (a : Word) : Word := result32 (fpSqrt single rm (value32 a)) (.sqrt a)
/-- `fp_sqrt_64` (R421, R422). -/
def sqrt64 (rm : RoundMode) (a : Dword) : Dword := result64 (fpSqrt double rm (value64 a)) (.sqrt a)

/-- `fp_round_to_32` of a double (R471). -/
def cvt32of64 (rm : RoundMode) (a : Dword) : Word := result32 (fpConvert single rm (value64 a)) (.cvtD a)
/-- A single as a double, exact (R474). -/
def cvt64of32 (a : Word) : Dword := result64 (fpConvert double .nearest (value32 a)) (.cvtS a)

/-- The bits of a source, and its value (R452). -/
def sourceValue : CvtSource → FpValue
  | .single v => value32 v
  | .double v => value64 v

/-- `ToInt_32` with R452. -/
def toInt32 (rm : RoundMode) (src : CvtSource) : Word :=
  match fpToInt 32 rm (sourceValue src) with
  | some r => r
  | none => Config.cvtInvalid32 src rm

/-- `ToInt_64` with R452. -/
def toInt64 (rm : RoundMode) (src : CvtSource) : Dword :=
  match fpToInt 64 rm (sourceValue src) with
  | some r => r
  | none => Config.cvtInvalid64 src rm

/-- `fp_from_int_32` (R453). -/
def fromInt32 (rm : RoundMode) (i : Int) : Word := BitVec.ofNat 32 (fpFromInt single rm i)
/-- `fp_from_int_64` (R453). -/
def fromInt64 (rm : RoundMode) (i : Int) : Dword := BitVec.ofNat 64 (fpFromInt double rm i)

end Sys2Proof.Machine
end

