-- ==== Sys2Proof/Machine/Cop1Arith.lean ====
section
/-! DEFINITION. Meanings: floating-point arithmetic (47_cop1_arith.md). -/

namespace Sys2Proof.Machine

/-- A two-operand single-precision operation under the current rounding mode (R424). -/
def binaryS (s : State) (fs ft fd : RegNum) (op : RoundMode → Word → Word → Word) : Result :=
  whenCop1 s (finish (s.writeS fd (op s.roundMode (s.readS fs) (s.readS ft))))

/-- A two-operand double-precision operation under the current rounding mode (R425). -/
def binaryD (s : State) (fs ft fd : RegNum) (op : RoundMode → Dword → Dword → Dword) : Result :=
  whenCop1 s <| whenD s fs <| whenD s ft <| whenD s fd <|
    finish (s.writeD fd (op s.roundMode (s.readD fs) (s.readD ft)))

/-- A one-operand single-precision operation (R432). -/
def unaryS (s : State) (fs fd : RegNum) (op : Word → Word) : Result :=
  whenCop1 s (finish (s.writeS fd (op (s.readS fs))))

/-- A one-operand double-precision operation (R433). -/
def unaryD (s : State) (fs fd : RegNum) (op : Dword → Dword) : Result :=
  whenCop1 s <| whenD s fs <| whenD s fd <| finish (s.writeD fd (op (s.readD fs)))

/-- `ADD.S fd, fs, ft`: Floating-Point Add, single (R424). -/
def execAddS (ft : RegNum) (fs : RegNum) (fd : RegNum) (s : State) : Result :=
  binaryS s fs ft fd add32

/-- `ADD.D fd, fs, ft`: Floating-Point Add, double (R425). -/
def execAddD (ft : RegNum) (fs : RegNum) (fd : RegNum) (s : State) : Result :=
  binaryD s fs ft fd add64

/-- `SUB.S fd, fs, ft`: Floating-Point Subtract, single (R426). -/
def execSubS (ft : RegNum) (fs : RegNum) (fd : RegNum) (s : State) : Result :=
  binaryS s fs ft fd sub32

/-- `SUB.D fd, fs, ft`: Floating-Point Subtract, double (R427). -/
def execSubD (ft : RegNum) (fs : RegNum) (fd : RegNum) (s : State) : Result :=
  binaryD s fs ft fd sub64

/-- `MUL.S fd, fs, ft`: Floating-Point Multiply, single (R428). -/
def execMulS (ft : RegNum) (fs : RegNum) (fd : RegNum) (s : State) : Result :=
  binaryS s fs ft fd mul32

/-- `MUL.D fd, fs, ft`: Floating-Point Multiply, double (R429). -/
def execMulD (ft : RegNum) (fs : RegNum) (fd : RegNum) (s : State) : Result :=
  binaryD s fs ft fd mul64

/-- `DIV.S fd, fs, ft`: Floating-Point Divide, single (R430). -/
def execDivS (ft : RegNum) (fs : RegNum) (fd : RegNum) (s : State) : Result :=
  binaryS s fs ft fd div32

/-- `DIV.D fd, fs, ft`: Floating-Point Divide, double (R431). -/
def execDivD (ft : RegNum) (fs : RegNum) (fd : RegNum) (s : State) : Result :=
  binaryD s fs ft fd div64

/-- `SQRT.S fd, fs`: Floating-Point Square Root, single (R432). -/
def execSqrtS (fs : RegNum) (fd : RegNum) (s : State) : Result :=
  unaryS s fs fd (sqrt32 s.roundMode)

/-- `SQRT.D fd, fs`: Floating-Point Square Root, double (R433). -/
def execSqrtD (fs : RegNum) (fd : RegNum) (s : State) : Result :=
  unaryD s fs fd (sqrt64 s.roundMode)

/-- `ABS.S fd, fs`: Floating-Point Absolute Value, single (R434). -/
def execAbsS (fs : RegNum) (fd : RegNum) (s : State) : Result :=
  unaryS s fs fd (fun v => v &&& 0x7FFFFFFF#32)

/-- `ABS.D fd, fs`: Floating-Point Absolute Value, double (R435). -/
def execAbsD (fs : RegNum) (fd : RegNum) (s : State) : Result :=
  unaryD s fs fd (fun v => v &&& 0x7FFFFFFFFFFFFFFF#64)

/-- `MOV.S fd, fs`: Floating-Point Move, single (R436). -/
def execMovS (fs : RegNum) (fd : RegNum) (s : State) : Result :=
  unaryS s fs fd (fun v => v)

/-- `MOV.D fd, fs`: Floating-Point Move, double (R437). -/
def execMovD (fs : RegNum) (fd : RegNum) (s : State) : Result :=
  unaryD s fs fd (fun v => v)

/-- `NEG.S fd, fs`: Floating-Point Negate, single (R438). -/
def execNegS (fs : RegNum) (fd : RegNum) (s : State) : Result :=
  unaryS s fs fd (fun v => v ^^^ 0x80000000#32)

/-- `NEG.D fd, fs`: Floating-Point Negate, double (R439). -/
def execNegD (fs : RegNum) (fd : RegNum) (s : State) : Result :=
  unaryD s fs fd (fun v => v ^^^ 0x8000000000000000#64)

end Sys2Proof.Machine
end

