-- ==== Sys2Proof/Machine/Cop1Compare.lean ====
section
/-! DEFINITION. Meanings: floating-point compares (49_cop1_compare.md). -/

namespace Sys2Proof.Machine

/-- A single-precision compare with condition code `cond` (R454). -/
def compareS (s : State) (cond : BitVec 4) (fs ft : RegNum) : Result :=
  whenCop1 s (compareWith s cond (fpRelation (value32 (s.readS fs)) (value32 (s.readS ft))))

/-- A double-precision compare with condition code `cond` (R454). -/
def compareD (s : State) (cond : BitVec 4) (fs ft : RegNum) : Result :=
  whenCop1 s <| whenD s fs <| whenD s ft <|
    compareWith s cond (fpRelation (value64 (s.readD fs)) (value64 (s.readD ft)))

/-- `C.F.S fs, ft`: Floating-Point Compare F, single, quiet (R481). -/
def execCFS (ft : RegNum) (fs : RegNum) (s : State) : Result :=
  compareS s 0 fs ft

/-- `C.F.D fs, ft`: Floating-Point Compare F, double, quiet (R482). -/
def execCFD (ft : RegNum) (fs : RegNum) (s : State) : Result :=
  compareD s 0 fs ft

/-- `C.UN.S fs, ft`: Floating-Point Compare UN, single, quiet (R483). -/
def execCUnS (ft : RegNum) (fs : RegNum) (s : State) : Result :=
  compareS s 1 fs ft

/-- `C.UN.D fs, ft`: Floating-Point Compare UN, double, quiet (R484). -/
def execCUnD (ft : RegNum) (fs : RegNum) (s : State) : Result :=
  compareD s 1 fs ft

/-- `C.EQ.S fs, ft`: Floating-Point Compare EQ, single, quiet (R485). -/
def execCEqS (ft : RegNum) (fs : RegNum) (s : State) : Result :=
  compareS s 2 fs ft

/-- `C.EQ.D fs, ft`: Floating-Point Compare EQ, double, quiet (R486). -/
def execCEqD (ft : RegNum) (fs : RegNum) (s : State) : Result :=
  compareD s 2 fs ft

/-- `C.UEQ.S fs, ft`: Floating-Point Compare UEQ, single, quiet (R487). -/
def execCUeqS (ft : RegNum) (fs : RegNum) (s : State) : Result :=
  compareS s 3 fs ft

/-- `C.UEQ.D fs, ft`: Floating-Point Compare UEQ, double, quiet (R488). -/
def execCUeqD (ft : RegNum) (fs : RegNum) (s : State) : Result :=
  compareD s 3 fs ft

/-- `C.OLT.S fs, ft`: Floating-Point Compare OLT, single, quiet (R489). -/
def execCOltS (ft : RegNum) (fs : RegNum) (s : State) : Result :=
  compareS s 4 fs ft

/-- `C.OLT.D fs, ft`: Floating-Point Compare OLT, double, quiet (R490). -/
def execCOltD (ft : RegNum) (fs : RegNum) (s : State) : Result :=
  compareD s 4 fs ft

/-- `C.ULT.S fs, ft`: Floating-Point Compare ULT, single, quiet (R491). -/
def execCUltS (ft : RegNum) (fs : RegNum) (s : State) : Result :=
  compareS s 5 fs ft

/-- `C.ULT.D fs, ft`: Floating-Point Compare ULT, double, quiet (R492). -/
def execCUltD (ft : RegNum) (fs : RegNum) (s : State) : Result :=
  compareD s 5 fs ft

/-- `C.OLE.S fs, ft`: Floating-Point Compare OLE, single, quiet (R493). -/
def execCOleS (ft : RegNum) (fs : RegNum) (s : State) : Result :=
  compareS s 6 fs ft

/-- `C.OLE.D fs, ft`: Floating-Point Compare OLE, double, quiet (R494). -/
def execCOleD (ft : RegNum) (fs : RegNum) (s : State) : Result :=
  compareD s 6 fs ft

/-- `C.ULE.S fs, ft`: Floating-Point Compare ULE, single, quiet (R495). -/
def execCUleS (ft : RegNum) (fs : RegNum) (s : State) : Result :=
  compareS s 7 fs ft

/-- `C.ULE.D fs, ft`: Floating-Point Compare ULE, double, quiet (R496). -/
def execCUleD (ft : RegNum) (fs : RegNum) (s : State) : Result :=
  compareD s 7 fs ft

/-- `C.SF.S fs, ft`: Floating-Point Compare SF, single, signalling (R497). -/
def execCSfS (ft : RegNum) (fs : RegNum) (s : State) : Result :=
  compareS s 8 fs ft

/-- `C.SF.D fs, ft`: Floating-Point Compare SF, double, signalling (R498). -/
def execCSfD (ft : RegNum) (fs : RegNum) (s : State) : Result :=
  compareD s 8 fs ft

/-- `C.NGLE.S fs, ft`: Floating-Point Compare NGLE, single, signalling (R499). -/
def execCNgleS (ft : RegNum) (fs : RegNum) (s : State) : Result :=
  compareS s 9 fs ft

/-- `C.NGLE.D fs, ft`: Floating-Point Compare NGLE, double, signalling (R500). -/
def execCNgleD (ft : RegNum) (fs : RegNum) (s : State) : Result :=
  compareD s 9 fs ft

/-- `C.SEQ.S fs, ft`: Floating-Point Compare SEQ, single, signalling (R501). -/
def execCSeqS (ft : RegNum) (fs : RegNum) (s : State) : Result :=
  compareS s 10 fs ft

/-- `C.SEQ.D fs, ft`: Floating-Point Compare SEQ, double, signalling (R502). -/
def execCSeqD (ft : RegNum) (fs : RegNum) (s : State) : Result :=
  compareD s 10 fs ft

/-- `C.NGL.S fs, ft`: Floating-Point Compare NGL, single, signalling (R503). -/
def execCNglS (ft : RegNum) (fs : RegNum) (s : State) : Result :=
  compareS s 11 fs ft

/-- `C.NGL.D fs, ft`: Floating-Point Compare NGL, double, signalling (R504). -/
def execCNglD (ft : RegNum) (fs : RegNum) (s : State) : Result :=
  compareD s 11 fs ft

/-- `C.LT.S fs, ft`: Floating-Point Compare LT, single, signalling (R505). -/
def execCLtS (ft : RegNum) (fs : RegNum) (s : State) : Result :=
  compareS s 12 fs ft

/-- `C.LT.D fs, ft`: Floating-Point Compare LT, double, signalling (R506). -/
def execCLtD (ft : RegNum) (fs : RegNum) (s : State) : Result :=
  compareD s 12 fs ft

/-- `C.NGE.S fs, ft`: Floating-Point Compare NGE, single, signalling (R507). -/
def execCNgeS (ft : RegNum) (fs : RegNum) (s : State) : Result :=
  compareS s 13 fs ft

/-- `C.NGE.D fs, ft`: Floating-Point Compare NGE, double, signalling (R508). -/
def execCNgeD (ft : RegNum) (fs : RegNum) (s : State) : Result :=
  compareD s 13 fs ft

/-- `C.LE.S fs, ft`: Floating-Point Compare LE, single, signalling (R509). -/
def execCLeS (ft : RegNum) (fs : RegNum) (s : State) : Result :=
  compareS s 14 fs ft

/-- `C.LE.D fs, ft`: Floating-Point Compare LE, double, signalling (R510). -/
def execCLeD (ft : RegNum) (fs : RegNum) (s : State) : Result :=
  compareD s 14 fs ft

/-- `C.NGT.S fs, ft`: Floating-Point Compare NGT, single, signalling (R511). -/
def execCNgtS (ft : RegNum) (fs : RegNum) (s : State) : Result :=
  compareS s 15 fs ft

/-- `C.NGT.D fs, ft`: Floating-Point Compare NGT, double, signalling (R512). -/
def execCNgtD (ft : RegNum) (fs : RegNum) (s : State) : Result :=
  compareD s 15 fs ft

end Sys2Proof.Machine
end

