-- ==== Sys2Proof/Machine/Cop1Convert.lean ====
section
/-! DEFINITION. Meanings: floating-point conversions (48_cop1_convert_compare.md). -/

namespace Sys2Proof.Machine

/-- A conversion that reads a single view and writes a single view (R450). -/
def convertStoS (s : State) (fs fd : RegNum) (op : Word → Word) : Result :=
  whenCop1 s (finish (s.writeS fd (op (s.readS fs))))

/-- A conversion that reads a double view and writes a single view (R450). -/
def convertDtoS (s : State) (fs fd : RegNum) (op : Dword → Word) : Result :=
  whenCop1 s <| whenD s fs <| finish (s.writeS fd (op (s.readD fs)))

/-- A conversion that reads a single view and writes a double view (R450). -/
def convertStoD (s : State) (fs fd : RegNum) (op : Word → Dword) : Result :=
  whenCop1 s <| whenD s fd <| finish (s.writeD fd (op (s.readS fs)))

/-- A conversion that reads a double view and writes a double view (R450). -/
def convertDtoD (s : State) (fs fd : RegNum) (op : Dword → Dword) : Result :=
  whenCop1 s <| whenD s fs <| whenD s fd <| finish (s.writeD fd (op (s.readD fs)))

/-- `ROUND.L.S fd, fs`: Floating-Point Round to Long Fixed-Point from single (R455). -/
def execRoundLS (fs : RegNum) (fd : RegNum) (s : State) : Result :=
  convertStoD s fs fd (fun v => toInt64 .nearest (.single v))

/-- `ROUND.L.D fd, fs`: Floating-Point Round to Long Fixed-Point from double (R456). -/
def execRoundLD (fs : RegNum) (fd : RegNum) (s : State) : Result :=
  convertDtoD s fs fd (fun v => toInt64 .nearest (.double v))

/-- `TRUNC.L.S fd, fs`: Floating-Point Trunc to Long Fixed-Point from single (R457). -/
def execTruncLS (fs : RegNum) (fd : RegNum) (s : State) : Result :=
  convertStoD s fs fd (fun v => toInt64 .zero (.single v))

/-- `TRUNC.L.D fd, fs`: Floating-Point Trunc to Long Fixed-Point from double (R458). -/
def execTruncLD (fs : RegNum) (fd : RegNum) (s : State) : Result :=
  convertDtoD s fs fd (fun v => toInt64 .zero (.double v))

/-- `CEIL.L.S fd, fs`: Floating-Point Ceil to Long Fixed-Point from single (R459). -/
def execCeilLS (fs : RegNum) (fd : RegNum) (s : State) : Result :=
  convertStoD s fs fd (fun v => toInt64 .up (.single v))

/-- `CEIL.L.D fd, fs`: Floating-Point Ceil to Long Fixed-Point from double (R460). -/
def execCeilLD (fs : RegNum) (fd : RegNum) (s : State) : Result :=
  convertDtoD s fs fd (fun v => toInt64 .up (.double v))

/-- `FLOOR.L.S fd, fs`: Floating-Point Floor to Long Fixed-Point from single (R461). -/
def execFloorLS (fs : RegNum) (fd : RegNum) (s : State) : Result :=
  convertStoD s fs fd (fun v => toInt64 .down (.single v))

/-- `FLOOR.L.D fd, fs`: Floating-Point Floor to Long Fixed-Point from double (R462). -/
def execFloorLD (fs : RegNum) (fd : RegNum) (s : State) : Result :=
  convertDtoD s fs fd (fun v => toInt64 .down (.double v))

/-- `ROUND.W.S fd, fs`: Floating-Point Round to Word Fixed-Point from single (R463). -/
def execRoundWS (fs : RegNum) (fd : RegNum) (s : State) : Result :=
  convertStoS s fs fd (fun v => toInt32 .nearest (.single v))

/-- `ROUND.W.D fd, fs`: Floating-Point Round to Word Fixed-Point from double (R464). -/
def execRoundWD (fs : RegNum) (fd : RegNum) (s : State) : Result :=
  convertDtoS s fs fd (fun v => toInt32 .nearest (.double v))

/-- `TRUNC.W.S fd, fs`: Floating-Point Trunc to Word Fixed-Point from single (R465). -/
def execTruncWS (fs : RegNum) (fd : RegNum) (s : State) : Result :=
  convertStoS s fs fd (fun v => toInt32 .zero (.single v))

/-- `TRUNC.W.D fd, fs`: Floating-Point Trunc to Word Fixed-Point from double (R466). -/
def execTruncWD (fs : RegNum) (fd : RegNum) (s : State) : Result :=
  convertDtoS s fs fd (fun v => toInt32 .zero (.double v))

/-- `CEIL.W.S fd, fs`: Floating-Point Ceil to Word Fixed-Point from single (R467). -/
def execCeilWS (fs : RegNum) (fd : RegNum) (s : State) : Result :=
  convertStoS s fs fd (fun v => toInt32 .up (.single v))

/-- `CEIL.W.D fd, fs`: Floating-Point Ceil to Word Fixed-Point from double (R468). -/
def execCeilWD (fs : RegNum) (fd : RegNum) (s : State) : Result :=
  convertDtoS s fs fd (fun v => toInt32 .up (.double v))

/-- `FLOOR.W.S fd, fs`: Floating-Point Floor to Word Fixed-Point from single (R469). -/
def execFloorWS (fs : RegNum) (fd : RegNum) (s : State) : Result :=
  convertStoS s fs fd (fun v => toInt32 .down (.single v))

/-- `FLOOR.W.D fd, fs`: Floating-Point Floor to Word Fixed-Point from double (R470). -/
def execFloorWD (fs : RegNum) (fd : RegNum) (s : State) : Result :=
  convertDtoS s fs fd (fun v => toInt32 .down (.double v))

/-- `CVT.S.D fd, fs`: Convert double to single (R471). -/
def execCvtSD (fs : RegNum) (fd : RegNum) (s : State) : Result :=
  convertDtoS s fs fd (cvt32of64 s.roundMode)

/-- `CVT.S.W fd, fs`: Convert word to single (R472). -/
def execCvtSW (fs : RegNum) (fd : RegNum) (s : State) : Result :=
  convertStoS s fs fd (fun v => fromInt32 s.roundMode v.toInt)

/-- `CVT.S.L fd, fs`: Convert long to single (R473). -/
def execCvtSL (fs : RegNum) (fd : RegNum) (s : State) : Result :=
  convertDtoS s fs fd (fun v => fromInt32 s.roundMode v.toInt)

/-- `CVT.D.S fd, fs`: Convert single to double (R474). -/
def execCvtDS (fs : RegNum) (fd : RegNum) (s : State) : Result :=
  convertStoD s fs fd cvt64of32

/-- `CVT.D.W fd, fs`: Convert word to double (R475). -/
def execCvtDW (fs : RegNum) (fd : RegNum) (s : State) : Result :=
  convertStoD s fs fd (fun v => fromInt64 s.roundMode v.toInt)

/-- `CVT.D.L fd, fs`: Convert long to double (R476). -/
def execCvtDL (fs : RegNum) (fd : RegNum) (s : State) : Result :=
  convertDtoD s fs fd (fun v => fromInt64 s.roundMode v.toInt)

/-- `CVT.W.S fd, fs`: Convert single to word fixed-point, current rounding mode (R477). -/
def execCvtWS (fs : RegNum) (fd : RegNum) (s : State) : Result :=
  convertStoS s fs fd (fun v => toInt32 s.roundMode (.single v))

/-- `CVT.W.D fd, fs`: Convert double to word fixed-point, current rounding mode (R478). -/
def execCvtWD (fs : RegNum) (fd : RegNum) (s : State) : Result :=
  convertDtoS s fs fd (fun v => toInt32 s.roundMode (.double v))

/-- `CVT.L.S fd, fs`: Convert single to long fixed-point, current rounding mode (R479). -/
def execCvtLS (fs : RegNum) (fd : RegNum) (s : State) : Result :=
  convertStoD s fs fd (fun v => toInt64 s.roundMode (.single v))

/-- `CVT.L.D fd, fs`: Convert double to long fixed-point, current rounding mode (R480). -/
def execCvtLD (fs : RegNum) (fd : RegNum) (s : State) : Result :=
  convertDtoD s fs fd (fun v => toInt64 s.roundMode (.double v))

end Sys2Proof.Machine
end

