-- ==== Sys2Proof/Machine/Cop1Move.lean ====
section
/-! DEFINITION. Meanings: floating-point moves, branches, loads and stores (46_cop1_move_branch.md). -/

namespace Sys2Proof.Machine

/-- `MFC1 rt, fs`: Move Word From Floating-Point (R401). -/
def execMfc1 (rt : RegNum) (fs : RegNum) (s : State) : Result :=
  whenCop1 s <|
    writeBack s rt (sext64 (s.readS fs))

/-- `DMFC1 rt, fs`: Doubleword Move From Floating-Point (R402). -/
def execDmfc1 (rt : RegNum) (fs : RegNum) (s : State) : Result :=
  whenCop1 s <|
    whenD s fs (writeBack s rt (s.readD fs))

/-- `CFC1 rt, fs`: Move Control Word From Floating-Point (R403). -/
def execCfc1 (rt : RegNum) (fs : RegNum) (s : State) : Result :=
  whenCop1 s <|
    if fs = 0 then writeBack s rt (sext64 s.fcr0)
    else if fs = 31 then writeBack s rt (sext64 s.fcr31)
    else finish { s.writeX rt (Config.freeCfc1 s.freeCount) with freeCount := s.freeCount + 1 }

/-- `MTC1 rt, fs`: Move Word To Floating-Point (R404). -/
def execMtc1 (rt : RegNum) (fs : RegNum) (s : State) : Result :=
  whenCop1 s <|
    finish (s.writeS fs (s.readW rt))

/-- `DMTC1 rt, fs`: Doubleword Move To Floating-Point (R405). -/
def execDmtc1 (rt : RegNum) (fs : RegNum) (s : State) : Result :=
  whenCop1 s <|
    whenD s fs (finish (s.writeD fs (s.readX rt)))

/-- `CTC1 rt, fs`: Move Control Word To Floating-Point (R406). -/
def execCtc1 (rt : RegNum) (fs : RegNum) (s : State) : Result :=
  whenCop1 s <|
    if fs = 31 then finish { s with fcr31 := s.readW rt } else finish s

/-- `BC1F offset`: Branch on FP False (R407). -/
def execBc1f (imm : Half) (s : State) : Result :=
  whenNotDelaySlot s <|
    whenCop1 s (branchIf s (!s.condition) (s.branchTarget imm))

/-- `BC1T offset`: Branch on FP True (R408). -/
def execBc1t (imm : Half) (s : State) : Result :=
  whenNotDelaySlot s <|
    whenCop1 s (branchIf s s.condition (s.branchTarget imm))

/-- `BC1FL offset`: Branch on FP False Likely (R409). -/
def execBc1fl (imm : Half) (s : State) : Result :=
  whenNotDelaySlot s <|
    whenCop1 s (branchLikelyIf s (!s.condition) (s.branchTarget imm))

/-- `BC1TL offset`: Branch on FP True Likely (R410). -/
def execBc1tl (imm : Half) (s : State) : Result :=
  whenNotDelaySlot s <|
    whenCop1 s (branchLikelyIf s s.condition (s.branchTarget imm))

/-- `LWC1 ft, offset(base)`: Load Word To Floating-Point (R411). -/
def execLwc1 (base : RegNum) (ft : RegNum) (imm : Half) (s : State) : Result :=
  whenCop1 s <|
    loadAt s (s.effAddr base imm) 4 fun v u => finish (u.writeS ft (low32 v))

/-- `LDC1 ft, offset(base)`: Load Doubleword To Floating-Point (R412): the operand test of `D[ft]` comes where the pseudocode writes
it, after the alignment test and the read (R554). -/
def execLdc1 (base : RegNum) (ft : RegNum) (imm : Half) (s : State) : Result :=
  whenCop1 s <|
    loadAt s (s.effAddr base imm) 8 fun v u => whenD u ft (finish (u.writeD ft v))

/-- `SWC1 ft, offset(base)`: Store Word From Floating-Point (R413). -/
def execSwc1 (base : RegNum) (ft : RegNum) (imm : Half) (s : State) : Result :=
  whenCop1 s <|
    storeAt s (s.effAddr base imm) 4 (zext64 (s.readS ft)) finish

/-- `SDC1 ft, offset(base)`: Store Doubleword From Floating-Point (R414): the operand test of `D[ft]` comes after the alignment test
(R554) and before MemWrite, whose argument it is (log 10). -/
def execSdc1 (base : RegNum) (ft : RegNum) (imm : Half) (s : State) : Result :=
  whenCop1 s <|
    let ea := s.effAddr base imm
    whenAligned s .store ea 8 <| whenD s ft <| storeAny s ea 8 (s.readD ft)

end Sys2Proof.Machine
end

