-- ==== Sys2Proof/Machine/IntAlu.lean ====
section
/-! DEFINITION. Meanings: immediate and three-register arithmetic, logic, comparison and shifts (40_integer_alu.md). -/

namespace Sys2Proof.Machine

/-- `ADDI rt, rs, imm`: Add Immediate Word, trapping (R203). -/
def execAddi (rs : RegNum) (rt : RegNum) (imm : Half) (s : State) : Result :=
  writeOrOverflow s rt ((exactSigned 32 ((s.readW rs).toInt + (imm.signExtend 32).toInt)).map sext64)

/-- `ADDIU rt, rs, imm`: Add Immediate Unsigned Word (no trap) (R204). -/
def execAddiu (rs : RegNum) (rt : RegNum) (imm : Half) (s : State) : Result :=
  writeBack s rt (sext64 (s.readW rs + imm.signExtend 32))

/-- `SLTI rt, rs, imm`: Set on Less Than Immediate (signed) (R205). -/
def execSlti (rs : RegNum) (rt : RegNum) (imm : Half) (s : State) : Result :=
  writeBack s rt (boolDword (ltSigned (s.readX rs) (immS imm)))

/-- `SLTIU rt, rs, imm`: Set on Less Than Immediate Unsigned (R206). -/
def execSltiu (rs : RegNum) (rt : RegNum) (imm : Half) (s : State) : Result :=
  writeBack s rt (boolDword (ltUnsigned (s.readX rs) (immS imm)))

/-- `ANDI rt, rs, imm`: And Immediate (R207). -/
def execAndi (rs : RegNum) (rt : RegNum) (imm : Half) (s : State) : Result :=
  writeBack s rt (s.readX rs &&& immZ imm)

/-- `ORI rt, rs, imm`: Or Immediate (R208). -/
def execOri (rs : RegNum) (rt : RegNum) (imm : Half) (s : State) : Result :=
  writeBack s rt (s.readX rs ||| immZ imm)

/-- `XORI rt, rs, imm`: Exclusive Or Immediate (R209). -/
def execXori (rs : RegNum) (rt : RegNum) (imm : Half) (s : State) : Result :=
  writeBack s rt (s.readX rs ^^^ immZ imm)

/-- `LUI rt, imm`: Load Upper Immediate (R210). -/
def execLui (rt : RegNum) (imm : Half) (s : State) : Result :=
  writeBack s rt (immUpper imm)

/-- `DADDI rt, rs, imm`: Doubleword Add Immediate, trapping (R211). -/
def execDaddi (rs : RegNum) (rt : RegNum) (imm : Half) (s : State) : Result :=
  writeOrOverflow s rt (exactSigned 64 ((s.readX rs).toInt + (immS imm).toInt))

/-- `DADDIU rt, rs, imm`: Doubleword Add Immediate Unsigned (no trap) (R212). -/
def execDaddiu (rs : RegNum) (rt : RegNum) (imm : Half) (s : State) : Result :=
  writeBack s rt (s.readX rs + immS imm)

/-- `ADD rd, rs, rt`: Add Word, trapping (R213). -/
def execAdd (rs : RegNum) (rt : RegNum) (rd : RegNum) (s : State) : Result :=
  writeOrOverflow s rd ((exactSigned 32 ((s.readW rs).toInt + (s.readW rt).toInt)).map sext64)

/-- `ADDU rd, rs, rt`: Add Unsigned Word (no trap) (R214). -/
def execAddu (rs : RegNum) (rt : RegNum) (rd : RegNum) (s : State) : Result :=
  writeBack s rd (sext64 (s.readW rs + s.readW rt))

/-- `SUB rd, rs, rt`: Subtract Word, trapping (R215). -/
def execSub (rs : RegNum) (rt : RegNum) (rd : RegNum) (s : State) : Result :=
  writeOrOverflow s rd ((exactSigned 32 ((s.readW rs).toInt - (s.readW rt).toInt)).map sext64)

/-- `SUBU rd, rs, rt`: Subtract Unsigned Word (no trap) (R216). -/
def execSubu (rs : RegNum) (rt : RegNum) (rd : RegNum) (s : State) : Result :=
  writeBack s rd (sext64 (s.readW rs - s.readW rt))

/-- `AND rd, rs, rt`: And (R217). -/
def execAnd (rs : RegNum) (rt : RegNum) (rd : RegNum) (s : State) : Result :=
  writeBack s rd (s.readX rs &&& s.readX rt)

/-- `OR rd, rs, rt`: Or (R218). -/
def execOr (rs : RegNum) (rt : RegNum) (rd : RegNum) (s : State) : Result :=
  writeBack s rd (s.readX rs ||| s.readX rt)

/-- `XOR rd, rs, rt`: Exclusive Or (R219). -/
def execXor (rs : RegNum) (rt : RegNum) (rd : RegNum) (s : State) : Result :=
  writeBack s rd (s.readX rs ^^^ s.readX rt)

/-- `NOR rd, rs, rt`: Not Or (R220). -/
def execNor (rs : RegNum) (rt : RegNum) (rd : RegNum) (s : State) : Result :=
  writeBack s rd (~~~(s.readX rs ||| s.readX rt))

/-- `SLT rd, rs, rt`: Set on Less Than (signed) (R221). -/
def execSlt (rs : RegNum) (rt : RegNum) (rd : RegNum) (s : State) : Result :=
  writeBack s rd (boolDword (ltSigned (s.readX rs) (s.readX rt)))

/-- `SLTU rd, rs, rt`: Set on Less Than Unsigned (R222). -/
def execSltu (rs : RegNum) (rt : RegNum) (rd : RegNum) (s : State) : Result :=
  writeBack s rd (boolDword (ltUnsigned (s.readX rs) (s.readX rt)))

/-- `DADD rd, rs, rt`: Doubleword Add, trapping (R223). -/
def execDadd (rs : RegNum) (rt : RegNum) (rd : RegNum) (s : State) : Result :=
  writeOrOverflow s rd (exactSigned 64 ((s.readX rs).toInt + (s.readX rt).toInt))

/-- `DADDU rd, rs, rt`: Doubleword Add Unsigned (no trap) (R224). -/
def execDaddu (rs : RegNum) (rt : RegNum) (rd : RegNum) (s : State) : Result :=
  writeBack s rd (s.readX rs + s.readX rt)

/-- `DSUB rd, rs, rt`: Doubleword Subtract, trapping (R225). -/
def execDsub (rs : RegNum) (rt : RegNum) (rd : RegNum) (s : State) : Result :=
  writeOrOverflow s rd (exactSigned 64 ((s.readX rs).toInt - (s.readX rt).toInt))

/-- `DSUBU rd, rs, rt`: Doubleword Subtract Unsigned (no trap) (R226). -/
def execDsubu (rs : RegNum) (rt : RegNum) (rd : RegNum) (s : State) : Result :=
  writeBack s rd (s.readX rs - s.readX rt)

/-- `SLL rd, rt, sa`: Shift Word Left Logical (R227). -/
def execSll (rt : RegNum) (rd : RegNum) (sa : Nat) (s : State) : Result :=
  writeBack s rd (sext64 (s.readW rt <<< sa))

/-- `SRL rd, rt, sa`: Shift Word Right Logical (R228). -/
def execSrl (rt : RegNum) (rd : RegNum) (sa : Nat) (s : State) : Result :=
  writeBack s rd (sext64 (s.readW rt >>> sa))

/-- `SRA rd, rt, sa`: Shift Word Right Arithmetic (R229). -/
def execSra (rt : RegNum) (rd : RegNum) (sa : Nat) (s : State) : Result :=
  writeBack s rd (sext64 ((s.readW rt).sshiftRight sa))

/-- `SLLV rd, rt, rs`: Shift Word Left Logical Variable (R230). -/
def execSllv (rs : RegNum) (rt : RegNum) (rd : RegNum) (s : State) : Result :=
  writeBack s rd (sext64 (s.readW rt <<< s.shift5 rs))

/-- `SRLV rd, rt, rs`: Shift Word Right Logical Variable (R231). -/
def execSrlv (rs : RegNum) (rt : RegNum) (rd : RegNum) (s : State) : Result :=
  writeBack s rd (sext64 (s.readW rt >>> s.shift5 rs))

/-- `SRAV rd, rt, rs`: Shift Word Right Arithmetic Variable (R232). -/
def execSrav (rs : RegNum) (rt : RegNum) (rd : RegNum) (s : State) : Result :=
  writeBack s rd (sext64 ((s.readW rt).sshiftRight (s.shift5 rs)))

/-- `DSLL rd, rt, sa`: Doubleword Shift Left Logical (R233). -/
def execDsll (rt : RegNum) (rd : RegNum) (sa : Nat) (s : State) : Result :=
  writeBack s rd (s.readX rt <<< sa)

/-- `DSRL rd, rt, sa`: Doubleword Shift Right Logical (R234). -/
def execDsrl (rt : RegNum) (rd : RegNum) (sa : Nat) (s : State) : Result :=
  writeBack s rd (s.readX rt >>> sa)

/-- `DSRA rd, rt, sa`: Doubleword Shift Right Arithmetic (R235). -/
def execDsra (rt : RegNum) (rd : RegNum) (sa : Nat) (s : State) : Result :=
  writeBack s rd ((s.readX rt).sshiftRight sa)

/-- `DSLLV rd, rt, rs`: Doubleword Shift Left Logical Variable (R236). -/
def execDsllv (rs : RegNum) (rt : RegNum) (rd : RegNum) (s : State) : Result :=
  writeBack s rd (s.readX rt <<< s.shift6 rs)

/-- `DSRLV rd, rt, rs`: Doubleword Shift Right Logical Variable (R237). -/
def execDsrlv (rs : RegNum) (rt : RegNum) (rd : RegNum) (s : State) : Result :=
  writeBack s rd (s.readX rt >>> s.shift6 rs)

/-- `DSRAV rd, rt, rs`: Doubleword Shift Right Arithmetic Variable (R238). -/
def execDsrav (rs : RegNum) (rt : RegNum) (rd : RegNum) (s : State) : Result :=
  writeBack s rd ((s.readX rt).sshiftRight (s.shift6 rs))

/-- `DSLL32 rd, rt, sa`: Doubleword Shift Left Logical plus 32 (R239). -/
def execDsll32 (rt : RegNum) (rd : RegNum) (sa : Nat) (s : State) : Result :=
  writeBack s rd (s.readX rt <<< (sa + 32))

/-- `DSRL32 rd, rt, sa`: Doubleword Shift Right Logical plus 32 (R240). -/
def execDsrl32 (rt : RegNum) (rd : RegNum) (sa : Nat) (s : State) : Result :=
  writeBack s rd (s.readX rt >>> (sa + 32))

/-- `DSRA32 rd, rt, sa`: Doubleword Shift Right Arithmetic plus 32 (R241). -/
def execDsra32 (rt : RegNum) (rd : RegNum) (sa : Nat) (s : State) : Result :=
  writeBack s rd ((s.readX rt).sshiftRight (sa + 32))

end Sys2Proof.Machine
end

