-- ==== Sys2Proof/Machine/LoadStore.lean ====
section
/-! DEFINITION. Meanings: loads, stores, unaligned access, LL and SC (42_loadstore.md). -/

namespace Sys2Proof.Machine

/-- SC and SCD (R292, R293): alignment first; with LLbit set the store, 1 in the register and LLbit cleared; with LLbit clear
no access, no translation, and 0 in the register. -/
def storeConditional (s : State) (rt : RegNum) (ea : Word) (n : Nat) : Result :=
  whenAligned s .store ea n <|
    if s.llbit then
      withAccess s (s.memWrite ea n (s.readX rt)) fun t => finish { t.writeX rt 1 with llbit := false }
    else writeBack s rt 0

/-- `LB rt, offset(base)`: Load Byte (signed) (R271). -/
def execLb (rs : RegNum) (rt : RegNum) (imm : Half) (s : State) : Result :=
  loadAt s (s.effAddr rs imm) 1 fun v u => writeBack u rt ((v.setWidth 8).signExtend 64)

/-- `LBU rt, offset(base)`: Load Byte Unsigned (R272). -/
def execLbu (rs : RegNum) (rt : RegNum) (imm : Half) (s : State) : Result :=
  loadAt s (s.effAddr rs imm) 1 fun v u => writeBack u rt v

/-- `LH rt, offset(base)`: Load Halfword (signed) (R273). -/
def execLh (rs : RegNum) (rt : RegNum) (imm : Half) (s : State) : Result :=
  loadAt s (s.effAddr rs imm) 2 fun v u => writeBack u rt ((v.setWidth 16).signExtend 64)

/-- `LHU rt, offset(base)`: Load Halfword Unsigned (R274). -/
def execLhu (rs : RegNum) (rt : RegNum) (imm : Half) (s : State) : Result :=
  loadAt s (s.effAddr rs imm) 2 fun v u => writeBack u rt v

/-- `LW rt, offset(base)`: Load Word (signed) (R275). -/
def execLw (rs : RegNum) (rt : RegNum) (imm : Half) (s : State) : Result :=
  loadAt s (s.effAddr rs imm) 4 fun v u => writeBack u rt (sext64 (low32 v))

/-- `LWU rt, offset(base)`: Load Word Unsigned (R276). -/
def execLwu (rs : RegNum) (rt : RegNum) (imm : Half) (s : State) : Result :=
  loadAt s (s.effAddr rs imm) 4 fun v u => writeBack u rt v

/-- `LD rt, offset(base)`: Load Doubleword (R277). -/
def execLd (rs : RegNum) (rt : RegNum) (imm : Half) (s : State) : Result :=
  loadAt s (s.effAddr rs imm) 8 fun v u => writeBack u rt v

/-- `LWL rt, offset(base)`: Load Word Left (R278). -/
def execLwl (rs : RegNum) (rt : RegNum) (imm : Half) (s : State) : Result :=
  let ea := s.effAddr rs imm
  loadAny s (wordBase ea) 4 fun v u => writeBack u rt (sext64 (mergeLeft32 (inWord ea) (low32 v) (s.readW rt)))

/-- `LWR rt, offset(base)`: Load Word Right (R279). -/
def execLwr (rs : RegNum) (rt : RegNum) (imm : Half) (s : State) : Result :=
  let ea := s.effAddr rs imm
  loadAny s (wordBase ea) 4 fun v u => writeBack u rt (sext64 (mergeRight32 (inWord ea) (low32 v) (s.readW rt)))

/-- `LDL rt, offset(base)`: Load Doubleword Left (R280). -/
def execLdl (rs : RegNum) (rt : RegNum) (imm : Half) (s : State) : Result :=
  let ea := s.effAddr rs imm
  loadAny s (dwordBase ea) 8 fun v u => writeBack u rt (mergeLeft64 (inDword ea) v (s.readX rt))

/-- `LDR rt, offset(base)`: Load Doubleword Right (R281). -/
def execLdr (rs : RegNum) (rt : RegNum) (imm : Half) (s : State) : Result :=
  let ea := s.effAddr rs imm
  loadAny s (dwordBase ea) 8 fun v u => writeBack u rt (mergeRight64 (inDword ea) v (s.readX rt))

/-- `SB rt, offset(base)`: Store Byte (R282). -/
def execSb (rs : RegNum) (rt : RegNum) (imm : Half) (s : State) : Result :=
  storeAt s (s.effAddr rs imm) 1 (s.readX rt) finish

/-- `SH rt, offset(base)`: Store Halfword (R283). -/
def execSh (rs : RegNum) (rt : RegNum) (imm : Half) (s : State) : Result :=
  storeAt s (s.effAddr rs imm) 2 (s.readX rt) finish

/-- `SW rt, offset(base)`: Store Word (R284). -/
def execSw (rs : RegNum) (rt : RegNum) (imm : Half) (s : State) : Result :=
  storeAt s (s.effAddr rs imm) 4 (s.readX rt) finish

/-- `SD rt, offset(base)`: Store Doubleword (R285). -/
def execSd (rs : RegNum) (rt : RegNum) (imm : Half) (s : State) : Result :=
  storeAt s (s.effAddr rs imm) 8 (s.readX rt) finish

/-- `SWL rt, offset(base)`: Store Word Left (R286). -/
def execSwl (rs : RegNum) (rt : RegNum) (imm : Half) (s : State) : Result :=
  let ea := s.effAddr rs imm
  storeAny s ea (4 - inWord ea) (zext64 (s.readW rt) >>> (8 * inWord ea))

/-- `SWR rt, offset(base)`: Store Word Right (R287). -/
def execSwr (rs : RegNum) (rt : RegNum) (imm : Half) (s : State) : Result :=
  let ea := s.effAddr rs imm
  storeAny s (wordBase ea) (inWord ea + 1) (s.readX rt)

/-- `SDL rt, offset(base)`: Store Doubleword Left (R288). -/
def execSdl (rs : RegNum) (rt : RegNum) (imm : Half) (s : State) : Result :=
  let ea := s.effAddr rs imm
  storeAny s ea (8 - inDword ea) (s.readX rt >>> (8 * inDword ea))

/-- `SDR rt, offset(base)`: Store Doubleword Right (R289). -/
def execSdr (rs : RegNum) (rt : RegNum) (imm : Half) (s : State) : Result :=
  let ea := s.effAddr rs imm
  storeAny s (dwordBase ea) (inDword ea + 1) (s.readX rt)

/-- `LL rt, offset(base)`: Load Linked Word (R290). -/
def execLl (rs : RegNum) (rt : RegNum) (imm : Half) (s : State) : Result :=
  loadAt s (s.effAddr rs imm) 4 fun v u => finish { u.writeX rt (sext64 (low32 v)) with llbit := true }

/-- `LLD rt, offset(base)`: Load Linked Doubleword (R291). -/
def execLld (rs : RegNum) (rt : RegNum) (imm : Half) (s : State) : Result :=
  loadAt s (s.effAddr rs imm) 8 fun v u => finish { u.writeX rt v with llbit := true }

/-- `SC rt, offset(base)`: Store Conditional Word (R292). -/
def execSc (rs : RegNum) (rt : RegNum) (imm : Half) (s : State) : Result :=
  storeConditional s rt (s.effAddr rs imm) 4

/-- `SCD rt, offset(base)`: Store Conditional Doubleword (R293). -/
def execScd (rs : RegNum) (rt : RegNum) (imm : Half) (s : State) : Result :=
  storeConditional s rt (s.effAddr rs imm) 8

end Sys2Proof.Machine
end

