-- ==== Sys2Proof/Machine/MulDiv.lean ====
section
/-! DEFINITION. Meanings: multiply, divide, hi and lo (41_muldiv.md). -/

namespace Sys2Proof.Machine

/-- A 64-bit exact product in two sign-extended halves (R257). -/
def State.writeProduct32 (s : State) (p : Int) : State :=
  s.writeLoHi (sext64 ((BitVec.ofInt 64 p).extractLsb' 0 32)) (sext64 ((BitVec.ofInt 64 p).extractLsb' 32 32))

/-- A 128-bit exact product in two halves (R261). -/
def State.writeProduct64 (s : State) (p : Int) : State :=
  s.writeLoHi ((BitVec.ofInt 128 p).extractLsb' 0 64) ((BitVec.ofInt 128 p).extractLsb' 64 64)

/-- Quotient and remainder, each cut to 32 bits and sign-extended (R259, R252). -/
def State.writeQuotient32 (s : State) (q r : Int) : State :=
  s.writeLoHi (sext64 (BitVec.ofInt 32 q)) (sext64 (BitVec.ofInt 32 r))

/-- Quotient and remainder, each cut to 64 bits (R263, R252). -/
def State.writeQuotient64 (s : State) (q r : Int) : State := s.writeLoHi (BitVec.ofInt 64 q) (BitVec.ofInt 64 r)

/-- The pair (lo, hi) a division by zero leaves (R251). -/
def State.writePair (s : State) (p : Dword × Dword) : State := s.writeLoHi p.1 p.2

/-- `MFHI rd`: Move From HI (R253). -/
def execMfhi (rd : RegNum) (s : State) : Result :=
  writeBack s rd s.hi

/-- `MTHI rs`: Move To HI (R254). -/
def execMthi (rs : RegNum) (s : State) : Result :=
  finish { s with hi := s.readX rs }

/-- `MFLO rd`: Move From LO (R255). -/
def execMflo (rd : RegNum) (s : State) : Result :=
  writeBack s rd s.lo

/-- `MTLO rs`: Move To LO (R256). -/
def execMtlo (rs : RegNum) (s : State) : Result :=
  finish { s with lo := s.readX rs }

/-- `MULT rs, rt`: Multiply Word (signed) (R257). -/
def execMult (rs : RegNum) (rt : RegNum) (s : State) : Result :=
  finish (s.writeProduct32 ((s.readW rs).toInt * (s.readW rt).toInt))

/-- `MULTU rs, rt`: Multiply Unsigned Word (R258). -/
def execMultu (rs : RegNum) (rt : RegNum) (s : State) : Result :=
  finish (s.writeProduct32 ((s.readW rs).toNat * (s.readW rt).toNat : Nat))

/-- `DIV rs, rt`: Divide Word (signed) (R259). -/
def execDiv (rs : RegNum) (rt : RegNum) (s : State) : Result :=
  finish
    (if s.readW rt = 0 then s.writePair (Config.divZero32 true (s.readW rs))
     else s.writeQuotient32 ((s.readW rs).toInt.tdiv (s.readW rt).toInt) ((s.readW rs).toInt.tmod (s.readW rt).toInt))

/-- `DIVU rs, rt`: Divide Unsigned Word (R260). -/
def execDivu (rs : RegNum) (rt : RegNum) (s : State) : Result :=
  finish
    (if s.readW rt = 0 then s.writePair (Config.divZero32 false (s.readW rs))
     else s.writeQuotient32 ((s.readW rs).toNat / (s.readW rt).toNat : Nat) ((s.readW rs).toNat % (s.readW rt).toNat : Nat))

/-- `DMULT rs, rt`: Doubleword Multiply (signed) (R261). -/
def execDmult (rs : RegNum) (rt : RegNum) (s : State) : Result :=
  finish (s.writeProduct64 ((s.readX rs).toInt * (s.readX rt).toInt))

/-- `DMULTU rs, rt`: Doubleword Multiply Unsigned (R262). -/
def execDmultu (rs : RegNum) (rt : RegNum) (s : State) : Result :=
  finish (s.writeProduct64 ((s.readX rs).toNat * (s.readX rt).toNat : Nat))

/-- `DDIV rs, rt`: Doubleword Divide (signed) (R263). -/
def execDdiv (rs : RegNum) (rt : RegNum) (s : State) : Result :=
  finish
    (if s.readX rt = 0 then s.writePair (Config.divZero64 true (s.readX rs))
     else s.writeQuotient64 ((s.readX rs).toInt.tdiv (s.readX rt).toInt) ((s.readX rs).toInt.tmod (s.readX rt).toInt))

/-- `DDIVU rs, rt`: Doubleword Divide Unsigned (R264). -/
def execDdivu (rs : RegNum) (rt : RegNum) (s : State) : Result :=
  finish
    (if s.readX rt = 0 then s.writePair (Config.divZero64 false (s.readX rs))
     else s.writeQuotient64 ((s.readX rs).toNat / (s.readX rt).toNat : Nat) ((s.readX rs).toNat % (s.readX rt).toNat : Nat))

end Sys2Proof.Machine
end

