-- ==== Sys2Proof/Machine/TrapSystem.lean ====
section
/-! DEFINITION. Meanings: system call, breakpoint, barriers and traps (44_trap_system.md). -/

namespace Sys2Proof.Machine

/-- `SYSCALL`: System Call (R340). -/
def execSyscall (s : State) : Result :=
  raise s .syscall

/-- `BREAK`: Breakpoint (R341). -/
def execBreak (s : State) : Result :=
  raise s .breakpoint

/-- `SYNC`: Synchronize Shared Memory (R342). -/
def execSync (s : State) : Result :=
  finish s

/-- `CACHE op, offset(base)`: Cache Operation (R343). -/
def execCache (_base : RegNum) (_op : Nat) (_imm : Half) (s : State) : Result :=
  finish s

/-- `TGE rs, rt`: Trap if Greater Than or Equal (signed) (R344). -/
def execTge (rs : RegNum) (rt : RegNum) (s : State) : Result :=
  trapIf s (!ltSigned (s.readX rs) (s.readX rt))

/-- `TGEU rs, rt`: Trap if Greater Than or Equal Unsigned (R345). -/
def execTgeu (rs : RegNum) (rt : RegNum) (s : State) : Result :=
  trapIf s (!ltUnsigned (s.readX rs) (s.readX rt))

/-- `TLT rs, rt`: Trap if Less Than (signed) (R346). -/
def execTlt (rs : RegNum) (rt : RegNum) (s : State) : Result :=
  trapIf s (ltSigned (s.readX rs) (s.readX rt))

/-- `TLTU rs, rt`: Trap if Less Than Unsigned (R347). -/
def execTltu (rs : RegNum) (rt : RegNum) (s : State) : Result :=
  trapIf s (ltUnsigned (s.readX rs) (s.readX rt))

/-- `TEQ rs, rt`: Trap if Equal (R348). -/
def execTeq (rs : RegNum) (rt : RegNum) (s : State) : Result :=
  trapIf s ((s.readX rs) == (s.readX rt))

/-- `TNE rs, rt`: Trap if Not Equal (R349). -/
def execTne (rs : RegNum) (rt : RegNum) (s : State) : Result :=
  trapIf s ((s.readX rs) != (s.readX rt))

/-- `TGEI rs, imm`: Trap if Greater Than or Equal Immediate (R350). -/
def execTgei (rs : RegNum) (imm : Half) (s : State) : Result :=
  trapIf s (!ltSigned (s.readX rs) (immS imm))

/-- `TGEIU rs, imm`: Trap if Greater Than or Equal Immediate Unsigned (R351). -/
def execTgeiu (rs : RegNum) (imm : Half) (s : State) : Result :=
  trapIf s (!ltUnsigned (s.readX rs) (immS imm))

/-- `TLTI rs, imm`: Trap if Less Than Immediate (R352). -/
def execTlti (rs : RegNum) (imm : Half) (s : State) : Result :=
  trapIf s (ltSigned (s.readX rs) (immS imm))

/-- `TLTIU rs, imm`: Trap if Less Than Immediate Unsigned (R353). -/
def execTltiu (rs : RegNum) (imm : Half) (s : State) : Result :=
  trapIf s (ltUnsigned (s.readX rs) (immS imm))

/-- `TEQI rs, imm`: Trap if Equal Immediate (R354). -/
def execTeqi (rs : RegNum) (imm : Half) (s : State) : Result :=
  trapIf s ((s.readX rs) == (immS imm))

/-- `TNEI rs, imm`: Trap if Not Equal Immediate (R355). -/
def execTnei (rs : RegNum) (imm : Half) (s : State) : Result :=
  trapIf s ((s.readX rs) != (immS imm))

end Sys2Proof.Machine
end

