-- ==== Sys2Proof/Machine/Dispatch.lean ====
section
/-! DEFINITION. Which meaning each instruction has: one arm per constructor of Instr. -/

namespace Sys2Proof.Machine

/-- The meaning of an instruction: it includes the advance of the program counter and exception entry (R26). -/
def exec (i : Instr) (s : State) : Host.Outcome State Fault Refusal :=
  match i with
  -- immediate and three-register arithmetic, logic, comparison and shifts (40_integer_alu.md)
  | .addi rs rt imm => Sys2Proof.Machine.execAddi rs rt imm s
  | .addiu rs rt imm => Sys2Proof.Machine.execAddiu rs rt imm s
  | .slti rs rt imm => Sys2Proof.Machine.execSlti rs rt imm s
  | .sltiu rs rt imm => Sys2Proof.Machine.execSltiu rs rt imm s
  | .andi rs rt imm => Sys2Proof.Machine.execAndi rs rt imm s
  | .ori rs rt imm => Sys2Proof.Machine.execOri rs rt imm s
  | .xori rs rt imm => Sys2Proof.Machine.execXori rs rt imm s
  | .lui rt imm => Sys2Proof.Machine.execLui rt imm s
  | .daddi rs rt imm => Sys2Proof.Machine.execDaddi rs rt imm s
  | .daddiu rs rt imm => Sys2Proof.Machine.execDaddiu rs rt imm s
  | .add rs rt rd => Sys2Proof.Machine.execAdd rs rt rd s
  | .addu rs rt rd => Sys2Proof.Machine.execAddu rs rt rd s
  | .sub rs rt rd => Sys2Proof.Machine.execSub rs rt rd s
  | .subu rs rt rd => Sys2Proof.Machine.execSubu rs rt rd s
  | .and rs rt rd => Sys2Proof.Machine.execAnd rs rt rd s
  | .or rs rt rd => Sys2Proof.Machine.execOr rs rt rd s
  | .xor rs rt rd => Sys2Proof.Machine.execXor rs rt rd s
  | .nor rs rt rd => Sys2Proof.Machine.execNor rs rt rd s
  | .slt rs rt rd => Sys2Proof.Machine.execSlt rs rt rd s
  | .sltu rs rt rd => Sys2Proof.Machine.execSltu rs rt rd s
  | .dadd rs rt rd => Sys2Proof.Machine.execDadd rs rt rd s
  | .daddu rs rt rd => Sys2Proof.Machine.execDaddu rs rt rd s
  | .dsub rs rt rd => Sys2Proof.Machine.execDsub rs rt rd s
  | .dsubu rs rt rd => Sys2Proof.Machine.execDsubu rs rt rd s
  | .sll rt rd sa => Sys2Proof.Machine.execSll rt rd sa s
  | .srl rt rd sa => Sys2Proof.Machine.execSrl rt rd sa s
  | .sra rt rd sa => Sys2Proof.Machine.execSra rt rd sa s
  | .sllv rs rt rd => Sys2Proof.Machine.execSllv rs rt rd s
  | .srlv rs rt rd => Sys2Proof.Machine.execSrlv rs rt rd s
  | .srav rs rt rd => Sys2Proof.Machine.execSrav rs rt rd s
  | .dsll rt rd sa => Sys2Proof.Machine.execDsll rt rd sa s
  | .dsrl rt rd sa => Sys2Proof.Machine.execDsrl rt rd sa s
  | .dsra rt rd sa => Sys2Proof.Machine.execDsra rt rd sa s
  | .dsllv rs rt rd => Sys2Proof.Machine.execDsllv rs rt rd s
  | .dsrlv rs rt rd => Sys2Proof.Machine.execDsrlv rs rt rd s
  | .dsrav rs rt rd => Sys2Proof.Machine.execDsrav rs rt rd s
  | .dsll32 rt rd sa => Sys2Proof.Machine.execDsll32 rt rd sa s
  | .dsrl32 rt rd sa => Sys2Proof.Machine.execDsrl32 rt rd sa s
  | .dsra32 rt rd sa => Sys2Proof.Machine.execDsra32 rt rd sa s
  -- multiply, divide, hi and lo (41_muldiv.md)
  | .mfhi rd => Sys2Proof.Machine.execMfhi rd s
  | .mthi rs => Sys2Proof.Machine.execMthi rs s
  | .mflo rd => Sys2Proof.Machine.execMflo rd s
  | .mtlo rs => Sys2Proof.Machine.execMtlo rs s
  | .mult rs rt => Sys2Proof.Machine.execMult rs rt s
  | .multu rs rt => Sys2Proof.Machine.execMultu rs rt s
  | .div rs rt => Sys2Proof.Machine.execDiv rs rt s
  | .divu rs rt => Sys2Proof.Machine.execDivu rs rt s
  | .dmult rs rt => Sys2Proof.Machine.execDmult rs rt s
  | .dmultu rs rt => Sys2Proof.Machine.execDmultu rs rt s
  | .ddiv rs rt => Sys2Proof.Machine.execDdiv rs rt s
  | .ddivu rs rt => Sys2Proof.Machine.execDdivu rs rt s
  -- loads, stores, unaligned access, LL and SC (42_loadstore.md)
  | .lb rs rt imm => Sys2Proof.Machine.execLb rs rt imm s
  | .lbu rs rt imm => Sys2Proof.Machine.execLbu rs rt imm s
  | .lh rs rt imm => Sys2Proof.Machine.execLh rs rt imm s
  | .lhu rs rt imm => Sys2Proof.Machine.execLhu rs rt imm s
  | .lw rs rt imm => Sys2Proof.Machine.execLw rs rt imm s
  | .lwu rs rt imm => Sys2Proof.Machine.execLwu rs rt imm s
  | .ld rs rt imm => Sys2Proof.Machine.execLd rs rt imm s
  | .lwl rs rt imm => Sys2Proof.Machine.execLwl rs rt imm s
  | .lwr rs rt imm => Sys2Proof.Machine.execLwr rs rt imm s
  | .ldl rs rt imm => Sys2Proof.Machine.execLdl rs rt imm s
  | .ldr rs rt imm => Sys2Proof.Machine.execLdr rs rt imm s
  | .sb rs rt imm => Sys2Proof.Machine.execSb rs rt imm s
  | .sh rs rt imm => Sys2Proof.Machine.execSh rs rt imm s
  | .sw rs rt imm => Sys2Proof.Machine.execSw rs rt imm s
  | .sd rs rt imm => Sys2Proof.Machine.execSd rs rt imm s
  | .swl rs rt imm => Sys2Proof.Machine.execSwl rs rt imm s
  | .swr rs rt imm => Sys2Proof.Machine.execSwr rs rt imm s
  | .sdl rs rt imm => Sys2Proof.Machine.execSdl rs rt imm s
  | .sdr rs rt imm => Sys2Proof.Machine.execSdr rs rt imm s
  | .ll rs rt imm => Sys2Proof.Machine.execLl rs rt imm s
  | .lld rs rt imm => Sys2Proof.Machine.execLld rs rt imm s
  | .sc rs rt imm => Sys2Proof.Machine.execSc rs rt imm s
  | .scd rs rt imm => Sys2Proof.Machine.execScd rs rt imm s
  -- jumps and branches (43_branch_jump.md)
  | .j target => Sys2Proof.Machine.execJ target s
  | .jal target => Sys2Proof.Machine.execJal target s
  | .jr rs => Sys2Proof.Machine.execJr rs s
  | .jalr rs rd => Sys2Proof.Machine.execJalr rs rd s
  | .beq rs rt imm => Sys2Proof.Machine.execBeq rs rt imm s
  | .bne rs rt imm => Sys2Proof.Machine.execBne rs rt imm s
  | .blez rs imm => Sys2Proof.Machine.execBlez rs imm s
  | .bgtz rs imm => Sys2Proof.Machine.execBgtz rs imm s
  | .beql rs rt imm => Sys2Proof.Machine.execBeql rs rt imm s
  | .bnel rs rt imm => Sys2Proof.Machine.execBnel rs rt imm s
  | .blezl rs imm => Sys2Proof.Machine.execBlezl rs imm s
  | .bgtzl rs imm => Sys2Proof.Machine.execBgtzl rs imm s
  | .bltz rs imm => Sys2Proof.Machine.execBltz rs imm s
  | .bgez rs imm => Sys2Proof.Machine.execBgez rs imm s
  | .bltzl rs imm => Sys2Proof.Machine.execBltzl rs imm s
  | .bgezl rs imm => Sys2Proof.Machine.execBgezl rs imm s
  | .bltzal rs imm => Sys2Proof.Machine.execBltzal rs imm s
  | .bgezal rs imm => Sys2Proof.Machine.execBgezal rs imm s
  | .bltzall rs imm => Sys2Proof.Machine.execBltzall rs imm s
  | .bgezall rs imm => Sys2Proof.Machine.execBgezall rs imm s
  -- system call, breakpoint, barriers and traps (44_trap_system.md)
  | .syscall => Sys2Proof.Machine.execSyscall s
  | .break_ => Sys2Proof.Machine.execBreak s
  | .sync => Sys2Proof.Machine.execSync s
  | .cache base op imm => Sys2Proof.Machine.execCache base op imm s
  | .tge rs rt => Sys2Proof.Machine.execTge rs rt s
  | .tgeu rs rt => Sys2Proof.Machine.execTgeu rs rt s
  | .tlt rs rt => Sys2Proof.Machine.execTlt rs rt s
  | .tltu rs rt => Sys2Proof.Machine.execTltu rs rt s
  | .teq rs rt => Sys2Proof.Machine.execTeq rs rt s
  | .tne rs rt => Sys2Proof.Machine.execTne rs rt s
  | .tgei rs imm => Sys2Proof.Machine.execTgei rs imm s
  | .tgeiu rs imm => Sys2Proof.Machine.execTgeiu rs imm s
  | .tlti rs imm => Sys2Proof.Machine.execTlti rs imm s
  | .tltiu rs imm => Sys2Proof.Machine.execTltiu rs imm s
  | .teqi rs imm => Sys2Proof.Machine.execTeqi rs imm s
  | .tnei rs imm => Sys2Proof.Machine.execTnei rs imm s
  -- system control coprocessor (45_cop0.md)
  | .mfc0 rt rd => Sys2Proof.Machine.execMfc0 rt rd s
  | .mtc0 rt rd => Sys2Proof.Machine.execMtc0 rt rd s
  | .tlbr => Sys2Proof.Machine.execTlbr s
  | .tlbwi => Sys2Proof.Machine.execTlbwi s
  | .tlbwr => Sys2Proof.Machine.execTlbwr s
  | .tlbp => Sys2Proof.Machine.execTlbp s
  | .eret => Sys2Proof.Machine.execEret s
  -- floating-point moves, branches, loads and stores (46_cop1_move_branch.md)
  | .mfc1 rt fs => Sys2Proof.Machine.execMfc1 rt fs s
  | .dmfc1 rt fs => Sys2Proof.Machine.execDmfc1 rt fs s
  | .cfc1 rt fs => Sys2Proof.Machine.execCfc1 rt fs s
  | .mtc1 rt fs => Sys2Proof.Machine.execMtc1 rt fs s
  | .dmtc1 rt fs => Sys2Proof.Machine.execDmtc1 rt fs s
  | .ctc1 rt fs => Sys2Proof.Machine.execCtc1 rt fs s
  | .bc1f imm => Sys2Proof.Machine.execBc1f imm s
  | .bc1t imm => Sys2Proof.Machine.execBc1t imm s
  | .bc1fl imm => Sys2Proof.Machine.execBc1fl imm s
  | .bc1tl imm => Sys2Proof.Machine.execBc1tl imm s
  | .lwc1 base ft imm => Sys2Proof.Machine.execLwc1 base ft imm s
  | .ldc1 base ft imm => Sys2Proof.Machine.execLdc1 base ft imm s
  | .swc1 base ft imm => Sys2Proof.Machine.execSwc1 base ft imm s
  | .sdc1 base ft imm => Sys2Proof.Machine.execSdc1 base ft imm s
  -- floating-point arithmetic (47_cop1_arith.md)
  | .addS ft fs fd => Sys2Proof.Machine.execAddS ft fs fd s
  | .addD ft fs fd => Sys2Proof.Machine.execAddD ft fs fd s
  | .subS ft fs fd => Sys2Proof.Machine.execSubS ft fs fd s
  | .subD ft fs fd => Sys2Proof.Machine.execSubD ft fs fd s
  | .mulS ft fs fd => Sys2Proof.Machine.execMulS ft fs fd s
  | .mulD ft fs fd => Sys2Proof.Machine.execMulD ft fs fd s
  | .divS ft fs fd => Sys2Proof.Machine.execDivS ft fs fd s
  | .divD ft fs fd => Sys2Proof.Machine.execDivD ft fs fd s
  | .sqrtS fs fd => Sys2Proof.Machine.execSqrtS fs fd s
  | .sqrtD fs fd => Sys2Proof.Machine.execSqrtD fs fd s
  | .absS fs fd => Sys2Proof.Machine.execAbsS fs fd s
  | .absD fs fd => Sys2Proof.Machine.execAbsD fs fd s
  | .movS fs fd => Sys2Proof.Machine.execMovS fs fd s
  | .movD fs fd => Sys2Proof.Machine.execMovD fs fd s
  | .negS fs fd => Sys2Proof.Machine.execNegS fs fd s
  | .negD fs fd => Sys2Proof.Machine.execNegD fs fd s
  -- floating-point conversions (48_cop1_convert_compare.md)
  | .roundLS fs fd => Sys2Proof.Machine.execRoundLS fs fd s
  | .roundLD fs fd => Sys2Proof.Machine.execRoundLD fs fd s
  | .truncLS fs fd => Sys2Proof.Machine.execTruncLS fs fd s
  | .truncLD fs fd => Sys2Proof.Machine.execTruncLD fs fd s
  | .ceilLS fs fd => Sys2Proof.Machine.execCeilLS fs fd s
  | .ceilLD fs fd => Sys2Proof.Machine.execCeilLD fs fd s
  | .floorLS fs fd => Sys2Proof.Machine.execFloorLS fs fd s
  | .floorLD fs fd => Sys2Proof.Machine.execFloorLD fs fd s
  | .roundWS fs fd => Sys2Proof.Machine.execRoundWS fs fd s
  | .roundWD fs fd => Sys2Proof.Machine.execRoundWD fs fd s
  | .truncWS fs fd => Sys2Proof.Machine.execTruncWS fs fd s
  | .truncWD fs fd => Sys2Proof.Machine.execTruncWD fs fd s
  | .ceilWS fs fd => Sys2Proof.Machine.execCeilWS fs fd s
  | .ceilWD fs fd => Sys2Proof.Machine.execCeilWD fs fd s
  | .floorWS fs fd => Sys2Proof.Machine.execFloorWS fs fd s
  | .floorWD fs fd => Sys2Proof.Machine.execFloorWD fs fd s
  | .cvtSD fs fd => Sys2Proof.Machine.execCvtSD fs fd s
  | .cvtSW fs fd => Sys2Proof.Machine.execCvtSW fs fd s
  | .cvtSL fs fd => Sys2Proof.Machine.execCvtSL fs fd s
  | .cvtDS fs fd => Sys2Proof.Machine.execCvtDS fs fd s
  | .cvtDW fs fd => Sys2Proof.Machine.execCvtDW fs fd s
  | .cvtDL fs fd => Sys2Proof.Machine.execCvtDL fs fd s
  | .cvtWS fs fd => Sys2Proof.Machine.execCvtWS fs fd s
  | .cvtWD fs fd => Sys2Proof.Machine.execCvtWD fs fd s
  | .cvtLS fs fd => Sys2Proof.Machine.execCvtLS fs fd s
  | .cvtLD fs fd => Sys2Proof.Machine.execCvtLD fs fd s
  -- floating-point compares (49_cop1_compare.md)
  | .cFS ft fs => Sys2Proof.Machine.execCFS ft fs s
  | .cFD ft fs => Sys2Proof.Machine.execCFD ft fs s
  | .cUnS ft fs => Sys2Proof.Machine.execCUnS ft fs s
  | .cUnD ft fs => Sys2Proof.Machine.execCUnD ft fs s
  | .cEqS ft fs => Sys2Proof.Machine.execCEqS ft fs s
  | .cEqD ft fs => Sys2Proof.Machine.execCEqD ft fs s
  | .cUeqS ft fs => Sys2Proof.Machine.execCUeqS ft fs s
  | .cUeqD ft fs => Sys2Proof.Machine.execCUeqD ft fs s
  | .cOltS ft fs => Sys2Proof.Machine.execCOltS ft fs s
  | .cOltD ft fs => Sys2Proof.Machine.execCOltD ft fs s
  | .cUltS ft fs => Sys2Proof.Machine.execCUltS ft fs s
  | .cUltD ft fs => Sys2Proof.Machine.execCUltD ft fs s
  | .cOleS ft fs => Sys2Proof.Machine.execCOleS ft fs s
  | .cOleD ft fs => Sys2Proof.Machine.execCOleD ft fs s
  | .cUleS ft fs => Sys2Proof.Machine.execCUleS ft fs s
  | .cUleD ft fs => Sys2Proof.Machine.execCUleD ft fs s
  | .cSfS ft fs => Sys2Proof.Machine.execCSfS ft fs s
  | .cSfD ft fs => Sys2Proof.Machine.execCSfD ft fs s
  | .cNgleS ft fs => Sys2Proof.Machine.execCNgleS ft fs s
  | .cNgleD ft fs => Sys2Proof.Machine.execCNgleD ft fs s
  | .cSeqS ft fs => Sys2Proof.Machine.execCSeqS ft fs s
  | .cSeqD ft fs => Sys2Proof.Machine.execCSeqD ft fs s
  | .cNglS ft fs => Sys2Proof.Machine.execCNglS ft fs s
  | .cNglD ft fs => Sys2Proof.Machine.execCNglD ft fs s
  | .cLtS ft fs => Sys2Proof.Machine.execCLtS ft fs s
  | .cLtD ft fs => Sys2Proof.Machine.execCLtD ft fs s
  | .cNgeS ft fs => Sys2Proof.Machine.execCNgeS ft fs s
  | .cNgeD ft fs => Sys2Proof.Machine.execCNgeD ft fs s
  | .cLeS ft fs => Sys2Proof.Machine.execCLeS ft fs s
  | .cLeD ft fs => Sys2Proof.Machine.execCLeD ft fs s
  | .cNgtS ft fs => Sys2Proof.Machine.execCNgtS ft fs s
  | .cNgtD ft fs => Sys2Proof.Machine.execCNgtD ft fs s

end Sys2Proof.Machine
end

