-- ==== Sys2Proof/Machine/Fetch.lean ====
section
/-! DEFINITION. What a step is made of (R26): its boundary, its fetch and decode, and how time moves after an instruction. Step.lean
only calls these. -/

namespace Sys2Proof.Machine

/-- `AdvanceTime()` runs after an instruction that completes or raises, and not after a halt or a refusal (R26). -/
def tick (r : Result) : Result :=
  match r with
  | .next s => .next s.advanceTime
  | .fault f => .fault f
  | .refused r => .refused r

/-- Execute the fetched word (R147): a reserved word halts (R149). -/
def runWord (w : Word) (s : State) : Result :=
  match decodeWord w with
  | .ok i => tick (exec i s)
  | .error _ => halt .reservedInstruction

/-- Fetch and execute; an exception of the fetch is handled as one of the instruction (R26, R86). -/
def runInstruction (s : State) : Result :=
  match s.fetch s.pc with
  | .ok (w, u) => runWord w u
  | .raise e => tick (raise s e)
  | .refuse r => .refused r

/-- `Step()` after `stop` has been tested (R26, R565): deliver the due events; an enabled pending interrupt is taken and ends the
step, otherwise one instruction executes. -/
def boundaryAndRun (s : State) : Result :=
  if s.deliverEvents.interruptPending then .next (s.deliverEvents.exceptionEntry .interrupt)
  else runInstruction s.deliverEvents

/-- The physical address `Fetch(pc)` reads, when it reads one and the word there is RAM (R85, R86). -/
def State.fetchAddress (s : State) : Option Nat :=
  if s.pc.extractLsb' 0 2 = 0 then
    match s.translate .fetch s.pc with
    | .ok pa => if s.allRam pa.toNat 4 then some pa.toNat else none
    | _ => none
  else none

/-- The state with the instruction word `w` in the four bytes the next fetch reads (log 20); unchanged when the fetch would raise,
refuse or read what is not RAM (log 27). -/
def State.placeWord (s : State) (w : Word) : State :=
  match s.fetchAddress with
  | some a => { s with mem := s.mem.writeWhere s.isRam a (zext64 w) 4 }
  | none => s

/-- The `stop` output after a step (R64, R552): set by a halt, and kept while the machine is stopped. -/
def stopAfter (s : State) (r : Result) : Bool :=
  match r with
  | .fault _ => true
  | .next t => t.stop
  | .refused _ => s.stop

end Sys2Proof.Machine
end

