-- ==== Sys2Proof/Machine/Step.lean ====
section
/-! DEFINITION. One step of the machine (R26). -/

namespace Sys2Proof.Machine

/-- `Step()` (R26): no step exists while `stop` is 1 (R64); otherwise the boundary, then at most one instruction. -/
def step (s : State) : Host.Outcome State Fault Refusal :=
  if s.stop then .fault .stopped else boundaryAndRun s

/-- The `stop` output (R552, R572): what the host sees after one more `Step()`. -/
def State.stopOutput (s : State) : Bool := stopAfter s (step s)

/-- `s` with the `nbits` bits `w`, zeros above them, as the instruction the next step fetches (log 20). -/
def State.withFetchWord (s : State) (nbits w : Nat) : State := s.placeWord (BitVec.ofNat 32 (w % 2 ^ nbits))

end Sys2Proof.Machine
end

