-- ==== Sys2Proof/Safety.lean ====
section
/-! DEFINITION. The terms claims are stated in: what an instruction leaves unchanged, how it ends, the invariants of the machine,
and when a run is safe. -/

namespace Sys2Proof.Machine

/-! ### What stays the same -/

/-- Every byte of physical memory reads as before. -/
def SameMemory (s t : State) : Prop := ∀ a, t.mem.readByte a = s.mem.readByte a

/-- Every byte outside the `n` bytes at `a` reads as before. -/
def SameMemoryOutside (s t : State) (a n : Nat) : Prop :=
  ∀ b, (b < a ∨ a + n ≤ b) → t.mem.readByte b = s.mem.readByte b

/-- Every general register but `rd` reads as before. -/
def SameRegsBut (rd : RegNum) (s t : State) : Prop := ∀ r, r ≠ rd → t.readX r = s.readX r

/-- Every general register reads as before. -/
def SameRegs (s t : State) : Prop := ∀ r, t.readX r = s.readX r

/-- The multiply/divide registers are as before. -/
def SameHiLo (s t : State) : Prop := t.hi = s.hi ∧ t.lo = s.lo

/-- Every COP0 register and every TLB entry is as before. -/
def SameSystem (s t : State) : Prop := t.cp0 = s.cp0 ∧ t.tlb = s.tlb

/-- Every floating-point register and both control registers are as before. -/
def SameFpu (s t : State) : Prop := (∀ r, t.readFgr r = s.readFgr r) ∧ t.fcr0 = s.fcr0 ∧ t.fcr31 = s.fcr31

/-- The state no instruction's own effect names: the halt flag, the hidden time, the events, which addresses are RAM, the port
transcript (no transaction with the platform) and the model's counter. -/
def SameHidden (s t : State) : Prop :=
  t.stop = s.stop ∧ t.time = s.time ∧ t.queue = s.queue ∧ t.notRam = s.notRam ∧ t.port = s.port ∧ t.freeCount = s.freeCount

/-- Execution is sequential (R27). -/
def Sequential (s t : State) : Prop := t.pc = s.npc ∧ t.npc = s.npc + 4 ∧ t.ds = false

/-- What register `rd` reads after a write of `v` (R22): register 0 discards it. -/
def Wrote (rd : RegNum) (v : Dword) (t : State) : Prop := t.readX rd = if rd = 0 then 0 else v

/-- All but the general registers is as before and execution is sequential. -/
def FrameRegs (s t : State) : Prop :=
  SameHiLo s t ∧ SameSystem s t ∧ SameFpu s t ∧ SameHidden s t ∧ t.llbit = s.llbit ∧ SameMemory s t ∧ Sequential s t

/-- The instruction completes: it writes `v` to `rd`, everything else is as in `u`, and execution is sequential. -/
def WritesRegOver (i : Instr) (s u : State) (rd : RegNum) (v : Dword) : Prop :=
  ∃ t, exec i s = .next t ∧ Wrote rd v t ∧ SameRegsBut rd u t ∧ FrameRegs u t

/-- The instruction completes: it writes `v` to `rd`, changes nothing else and execution is sequential. -/
def WritesReg (i : Instr) (s : State) (rd : RegNum) (v : Dword) : Prop := WritesRegOver i s s rd v

/-- The instruction completes: it reads the `n` bytes at `pa` once, writes `v` to `rd`, changes nothing else and execution is
sequential. Reading RAM changes nothing; of another read the port transcript keeps the transaction (log 30). -/
def LoadsReg (i : Instr) (s : State) (pa : Word) (n : Nat) (rd : RegNum) (v : Dword) : Prop :=
  WritesRegOver i s (s.afterRead pa n) rd v

/-- The instruction completes with no effect but the sequential advance. -/
def DoesNothing (i : Instr) (s : State) : Prop := ∃ t, exec i s = .next t ∧ SameRegs s t ∧ FrameRegs s t

/-- The instruction completes: it writes `lo` and `hi`, changes nothing else and execution is sequential. -/
def WritesLoHi (i : Instr) (s : State) (l h : Dword) : Prop :=
  ∃ t, exec i s = .next t ∧ t.lo = l ∧ t.hi = h ∧ SameRegs s t ∧ SameSystem s t ∧ SameFpu s t ∧ SameHidden s t ∧
    t.llbit = s.llbit ∧ SameMemory s t ∧ Sequential s t

/-- All but memory, the program counter and the delay-slot flag is as before. -/
def SameButMemory (s t : State) : Prop :=
  SameRegs s t ∧ SameHiLo s t ∧ SameSystem s t ∧ SameFpu s t ∧ SameHidden s t ∧ t.llbit = s.llbit

/-- The RAM among the `n` bytes at `a` holds the low `8n` bits of `v`, most significant first (R82, R85); what is not RAM holds
nothing new (log 30). -/
def HoldsBytes (s t : State) (a n : Nat) (v : Dword) : Prop :=
  ∀ k < n, t.mem.readByte (a + k) =
    if s.isRam (a + k) then (v >>> (8 * (n - 1 - k))).setWidth 8 else s.mem.readByte (a + k)

/-- The instruction completes: it stores the low `8n` bits of `v` at physical address `pa`, changes no other byte and nothing
else, and execution is sequential. Of a write that is not all RAM the port transcript keeps the transaction (log 30). -/
def Stores (i : Instr) (s : State) (pa : Word) (n : Nat) (v : Dword) : Prop :=
  ∃ t, exec i s = .next t ∧ HoldsBytes s t pa.toNat n v ∧ SameMemoryOutside s t pa.toNat n ∧
    SameButMemory (s.afterWrite pa n v) t ∧ Sequential s t

/-- A branch's own effect (R311 to R313): it completes with these sequencing registers; general registers but `link` and all
other state are as before. -/
def Transfers (i : Instr) (s : State) (pc npc : Word) (ds : Bool) : Prop :=
  ∃ t, exec i s = .next t ∧ t.pc = pc ∧ t.npc = npc ∧ t.ds = ds ∧ SameRegs s t ∧ SameHiLo s t ∧ SameSystem s t ∧
    SameFpu s t ∧ SameHidden s t ∧ t.llbit = s.llbit ∧ SameMemory s t

/-- A linking branch: as `Transfers`, and `rd` takes the link value. -/
def TransfersLinking (i : Instr) (s : State) (rd : RegNum) (link : Dword) (pc npc : Word) (ds : Bool) : Prop :=
  ∃ t, exec i s = .next t ∧ t.pc = pc ∧ t.npc = npc ∧ t.ds = ds ∧ Wrote rd link t ∧ SameRegsBut rd s t ∧ SameHiLo s t ∧
    SameSystem s t ∧ SameFpu s t ∧ SameHidden s t ∧ t.llbit = s.llbit ∧ SameMemory s t

/-- The instruction completes: over `u` it changes floating-point registers only through the single view `S[fd]`, which takes `v`. -/
def WritesSOver (i : Instr) (s u : State) (fd : RegNum) (v : Word) : Prop :=
  ∃ t, exec i s = .next t ∧ t.readS fd = v ∧ (∀ r, r ≠ fd → t.readS r = u.readS r) ∧
    (u.fr = true → ∀ r, (t.readFgr r).extractLsb' 32 32 = (u.readFgr r).extractLsb' 32 32) ∧
    (u.fr = false → ∀ r, oddReg r = true → t.readFgr r = u.readFgr r) ∧
    t.fcr0 = u.fcr0 ∧ t.fcr31 = u.fcr31 ∧ SameRegs u t ∧ SameHiLo u t ∧ SameSystem u t ∧ SameHidden u t ∧
    t.llbit = u.llbit ∧ SameMemory u t ∧ Sequential u t

/-- The instruction completes: it changes floating-point registers only through the single view `S[fd]`, which takes `v`. -/
def WritesS (i : Instr) (s : State) (fd : RegNum) (v : Word) : Prop := WritesSOver i s s fd v

/-- The instruction completes: it writes `v` to `D[fd]`, and everything else is as in `u`. -/
def WritesDOver (i : Instr) (s u : State) (fd : RegNum) (v : Dword) : Prop :=
  ∃ t, exec i s = .next t ∧ t.readD fd = v ∧ (∀ r, r ≠ fd → t.readFgr r = u.readFgr r) ∧
    t.fcr0 = u.fcr0 ∧ t.fcr31 = u.fcr31 ∧ SameRegs u t ∧ SameHiLo u t ∧ SameSystem u t ∧ SameHidden u t ∧
    t.llbit = u.llbit ∧ SameMemory u t ∧ Sequential u t

/-- The instruction completes: it writes `v` to `D[fd]` and changes nothing else. -/
def WritesD (i : Instr) (s : State) (fd : RegNum) (v : Dword) : Prop := WritesDOver i s s fd v

/-- The instruction completes: it writes the condition bit and changes nothing else, no other bit of fcr31 either (R454). -/
def WritesCondition (i : Instr) (s : State) (c : Bool) : Prop :=
  ∃ t, exec i s = .next t ∧ t.condition = c ∧ (∀ k, k ≠ 23 → t.fcr31.getLsbD k = s.fcr31.getLsbD k) ∧
    (∀ r, t.readFgr r = s.readFgr r) ∧ t.fcr0 = s.fcr0 ∧ SameRegs s t ∧ SameHiLo s t ∧ SameSystem s t ∧ SameHidden s t ∧
    t.llbit = s.llbit ∧ SameMemory s t ∧ Sequential s t

/-- The instruction completes: it changes COP0 registers to `c`, nothing else, and execution is sequential. -/
def WritesCop0 (i : Instr) (s : State) (c : Cop0) : Prop :=
  ∃ t, exec i s = .next t ∧ t.cp0 = c ∧ t.tlb = s.tlb ∧ SameRegs s t ∧ SameHiLo s t ∧ SameFpu s t ∧ SameHidden s t ∧
    t.llbit = s.llbit ∧ SameMemory s t ∧ Sequential s t

/-- The instruction completes: it writes TLB slot `k` and changes nothing else (R94). -/
def WritesTlb (i : Instr) (s : State) (k : BitVec 5) (e : TlbEntry) : Prop :=
  ∃ t, exec i s = .next t ∧ t.readTlb k = e ∧ (∀ j, j ≠ k → t.readTlb j = s.readTlb j) ∧ t.cp0 = s.cp0 ∧ SameRegs s t ∧
    SameHiLo s t ∧ SameFpu s t ∧ SameHidden s t ∧ t.llbit = s.llbit ∧ SameMemory s t ∧ Sequential s t

/-- What exception entry never touches (R542): registers, floating point, memory, the TLB, LLbit, the hidden state. -/
def SameButEntry (s t : State) : Prop :=
  SameRegs s t ∧ SameHiLo s t ∧ SameFpu s t ∧ SameMemory s t ∧ t.tlb = s.tlb ∧ t.llbit = s.llbit ∧ SameHidden s t

/-- The instruction raises `e`: exception entry on the state before it (R540). -/
def Raises (i : Instr) (s : State) (e : Exc) : Prop := exec i s = .next (s.exceptionEntry e)

/-! ### Invariants of the machine -/

/-- Memory keeps its canonical form (log 5). -/
def State.memCanonical (s : State) : Prop := s.mem.wf = true

/-- Every listed physical address is below 512 MiB (R81). -/
def State.memInRange (s : State) : Prop := ∀ c ∈ s.mem, c.1 < 0x20000000

/-- The COP0 bits that no write can set are zero (R31, R33 to R36, R39, R42, R50). -/
def Cop0.reservedZero (c : Cop0) : Prop :=
  c.index &&& 0x7FFFFFE0#32 = 0 ∧ c.entryLo0 &&& 0xC0000000#32 = 0 ∧ c.entryLo1 &&& 0xC0000000#32 = 0 ∧
    c.context &&& 0x0000000F#32 = 0 ∧ c.pageMask &&& ~~~0x01FFE000#32 = 0 ∧ c.wired &&& ~~~0x0000003F#32 = 0 ∧
    c.entryHi &&& 0x00001F00#32 = 0 ∧ c.cause &&& ~~~0xB000FC7C#32 = 0 ∧ c.tagLo &&& ~~~0x0FFFFFC0#32 = 0 ∧ c.tagHi = 0

/-- Outside a delay slot the next instruction is the one after this (R25). -/
def State.sequenced (s : State) : Prop := s.ds = false → s.npc = s.pc + 4

/-- The COP0 cells that nothing writes (R46, R48, R49, R51, R52) and the read-only constants PRId and fcr0 (R44, R59). -/
def State.sameConstants (s t : State) : Prop :=
  t.cp0.prid = s.cp0.prid ∧ t.fcr0 = s.fcr0 ∧ t.cp0.llAddr = s.cp0.llAddr ∧ t.cp0.xContext = s.cp0.xContext ∧
    t.cp0.pErr = s.cp0.pErr ∧ t.cp0.cacheErr = s.cp0.cacheErr ∧ t.cp0.errorEpc = s.cp0.errorEpc ∧ t.cp0.reg7 = s.cp0.reg7 ∧
    t.cp0.reg21 = s.cp0.reg21 ∧ t.cp0.reg22 = s.cp0.reg22 ∧ t.cp0.reg23 = s.cp0.reg23 ∧ t.cp0.reg24 = s.cp0.reg24 ∧
    t.cp0.reg25 = s.cp0.reg25 ∧ t.cp0.reg31 = s.cp0.reg31

/-! ### Families of instructions -/

/-- The jumps and branches of 43_branch_jump.md, the BC1 branches and ERET: what R624 forbids in a delay slot. -/
def controlTransfer : Instr → Bool
  | .j _ | .jal _ | .jr _ | .jalr _ _ | .eret => true
  | .beq _ _ _ | .bne _ _ _ | .blez _ _ | .bgtz _ _ | .beql _ _ _ | .bnel _ _ _ | .blezl _ _ | .bgtzl _ _ => true
  | .bltz _ _ | .bgez _ _ | .bltzl _ _ | .bgezl _ _ | .bltzal _ _ | .bgezal _ _ | .bltzall _ _ | .bgezall _ _ => true
  | .bc1f _ | .bc1t _ | .bc1fl _ | .bc1tl _ => true
  | _ => false

/-- The COP1 instructions of R400: major opcode 17 and LWC1, LDC1, SWC1, SDC1, by the opcode of their words. -/
def isCop1 (i : Instr) : Bool := [17#6, 49#6, 53#6, 57#6, 61#6].contains (fieldOpcode (encode i))

/-- The privileged instructions (R561). -/
def isPrivileged (i : Instr) : Bool := fieldOpcode (encode i) == 16#6

/-- The sixteen condition codes of R454 and their single-precision compares. -/
def compareSingle (cond : BitVec 4) (fs ft : RegNum) : Instr :=
  match cond.toNat with
  | 0 => .cFS ft fs
  | 1 => .cUnS ft fs
  | 2 => .cEqS ft fs
  | 3 => .cUeqS ft fs
  | 4 => .cOltS ft fs
  | 5 => .cUltS ft fs
  | 6 => .cOleS ft fs
  | 7 => .cUleS ft fs
  | 8 => .cSfS ft fs
  | 9 => .cNgleS ft fs
  | 10 => .cSeqS ft fs
  | 11 => .cNglS ft fs
  | 12 => .cLtS ft fs
  | 13 => .cNgeS ft fs
  | 14 => .cLeS ft fs
  | _ => .cNgtS ft fs

/-- The sixteen condition codes of R454 and their double-precision compares. -/
def compareDouble (cond : BitVec 4) (fs ft : RegNum) : Instr :=
  match cond.toNat with
  | 0 => .cFD ft fs
  | 1 => .cUnD ft fs
  | 2 => .cEqD ft fs
  | 3 => .cUeqD ft fs
  | 4 => .cOltD ft fs
  | 5 => .cUltD ft fs
  | 6 => .cOleD ft fs
  | 7 => .cUleD ft fs
  | 8 => .cSfD ft fs
  | 9 => .cNgleD ft fs
  | 10 => .cSeqD ft fs
  | 11 => .cNglD ft fs
  | 12 => .cLtD ft fs
  | 13 => .cNgeD ft fs
  | 14 => .cLeD ft fs
  | _ => .cNgtD ft fs

/-! ### Correct rounding (R421) -/

/-- The real value of a finite floating-point value (R420). -/
def HasValue (v : FpValue) (x : ℝ) : Prop :=
  ∃ neg mag exp, v = .fin neg mag exp ∧ x = (if neg then -1 else 1) * (mag : ℝ) * (2 : ℝ) ^ exp

/-- The real number `v` is a finite value of the format. -/
def Representable (f : FpFormat) (v : ℝ) : Prop := ∃ b < 2 * f.signBit, HasValue (unpack f b) v

/-- The largest finite value of the format. -/
def IsLargest (f : FpFormat) (m : ℝ) : Prop := HasValue (unpack f (f.infBits - 1)) m

/-- `bits` encode the real number `x`, not zero, rounded to the format in the direction `rm` (R421): the sign is that of `x`;
the finite result is the best representable value in that direction, ties to the even encoding; overflow as R421 says. -/
def CorrectlyRounded (f : FpFormat) (rm : RoundMode) (x : ℝ) (bits : Nat) : Prop :=
  bits < 2 * f.signBit ∧ (f.signBit ≤ bits ↔ x < 0) ∧
  match rm with
  | .down =>
    (∃ y, HasValue (unpack f bits) y ∧ y ≤ x ∧ ∀ v, Representable f v → v ≤ x → v ≤ y) ∨
      (unpack f bits = .inf true ∧ ∀ m, IsLargest f m → x < -m)
  | .up =>
    (∃ y, HasValue (unpack f bits) y ∧ x ≤ y ∧ ∀ v, Representable f v → x ≤ v → y ≤ v) ∨
      (unpack f bits = .inf false ∧ ∀ m, IsLargest f m → m < x)
  | .zero => ∃ y, HasValue (unpack f bits) y ∧ |y| ≤ |x| ∧ ∀ v, Representable f v → |v| ≤ |x| → |v| ≤ |y|
  | .nearest =>
    (∃ y, HasValue (unpack f bits) y ∧
      (∀ v, Representable f v → |x - y| ≤ |x - v| ∧ (v ≠ y → |x - v| = |x - y| → bits % 2 = 0)) ∧
      ∀ m, IsLargest f m → |x| < (m + (2 : ℝ) ^ (f.bias + 1)) / 2) ∨
      (unpack f bits = .inf (decide (f.signBit ≤ bits)) ∧
        ∀ m, IsLargest f m → (m + (2 : ℝ) ^ (f.bias + 1)) / 2 ≤ |x|)

/-- A NaN pattern of binary32 (R420). -/
def IsNaN32 (v : Word) : Prop := v.extractLsb' 23 8 = 0xFF#8 ∧ v.extractLsb' 0 23 ≠ 0

/-- A NaN pattern of binary64 (R420). -/
def IsNaN64 (v : Dword) : Prop := v.extractLsb' 52 11 = 0x7FF#11 ∧ v.extractLsb' 0 52 ≠ 0

/-! ### Translation (R90, R96) -/

/-- The address lies in the virtual range of a half of an entry (R90). -/
def InHalf (e : TlbEntry) (odd : Bool) (va : Word) : Prop :=
  e.halfStart odd ≤ va.toNat ∧ va.toNat < e.halfStart odd + e.pageSize

/-- A valid installable half (R91). -/
def Mapped (e : TlbEntry) (odd : Bool) : Prop := (e.half odd).valid = true ∧ e.installable odd = true

/-! ### Safe runs -/

/-- `n` steps end in a state: none of them halts, refuses or meets `stop`. -/
def SafeRun (n : Nat) (s : State) : Prop := ∃ t, core.run n s = .next t

end Sys2Proof.Machine
end

