-- ==== Sys2Proof/Certificates/Slice0/Obligations.lean ====
section
/-! DEFINITION. The statements for the provers. Each docstring names the rule of the spec it formalises. -/

open Sys2Proof Sys2Proof.Machine

/-- Decoding the bytes of a well-formed instruction gives it back, with the bytes after it (R130 to R147). -/
def Obligations.DecodeInvertsEncode : Prop :=
  ∀ (i : Instr) (rest : List Byte), i.wellFormed = true → decode (encodeBytes i ++ rest) = .ok (i, rest)

/-- A word decodes to a well-formed instruction exactly when, its ignored bits cleared, it is that instruction's encoding; and what
decodes is well-formed (R147, R148). -/
def Obligations.DecodesExactlyItsEncodings : Prop :=
  (∀ (w : Word) (i : Instr), i.wellFormed = true → (decodeWord w = .ok i ↔ w &&& ~~~ignoredBits i = encode i)) ∧
  ∀ (w : Word) (i : Instr), decodeWord w = .ok i → i.wellFormed = true

/-- The words that are no instruction are exactly those of the list of R150. -/
def Obligations.ReservedWordsAreTheListedOnes : Prop :=
  ∀ w : Word, (∃ e, decodeWord w = .error e) ↔
    let op := (w.extractLsb' 26 6).toNat
    let sub := (w.extractLsb' 21 5).toNat
    let sel := (w.extractLsb' 16 5).toNat
    let funct := (w.extractLsb' 0 6).toNat
    op ∈ [18, 19, 28, 29, 30, 31, 50, 51, 54, 58, 59, 62] ∨
    (op = 0 ∧ funct ∈ [1, 5, 10, 11, 14, 21, 40, 41, 53, 55, 57, 61]) ∨
    (op = 1 ∧ ((4 ≤ sel ∧ sel ≤ 7) ∨ sel = 13 ∨ sel = 15 ∨ 20 ≤ sel)) ∨
    (op = 16 ∧ (sub ∉ [0, 4, 16] ∨ (sub = 16 ∧ funct ∉ [1, 2, 6, 8, 24]))) ∨
    (op = 17 ∧
      (sub ∉ [0, 1, 2, 4, 5, 6, 8, 16, 17, 20, 21] ∨ (sub = 8 ∧ 4 ≤ sel) ∨
        (sub = 16 ∧ ((16 ≤ funct ∧ funct ≤ 31) ∨ funct ∈ [32, 34, 35] ∨ (38 ≤ funct ∧ funct ≤ 47))) ∨
        (sub = 17 ∧ ((16 ≤ funct ∧ funct ≤ 31) ∨ funct ∈ [33, 34, 35] ∨ (38 ≤ funct ∧ funct ≤ 47))) ∨
        ((sub = 20 ∨ sub = 21) ∧ funct ∉ [32, 33])))

/-- Worked encodings of the spec decode to the instruction they stand for (R203, R228, R259, R275, R318, R361, R363, R414, R424, R455). -/
def Obligations.SampleWordsDecode : Prop :=
  decodeWord 0x2022FFFF#32 = .ok (.addi 1 2 0xFFFF) ∧ decodeWord 0x00021902#32 = .ok (.srl 2 3 4) ∧
  decodeWord 0x8C220004#32 = .ok (.lw 1 2 4) ∧ decodeWord 0x10220003#32 = .ok (.beq 1 2 3) ∧
  decodeWord 0x40026000#32 = .ok (.mfc0 2 12) ∧ decodeWord 0x42000001#32 = .ok .tlbr ∧
  decodeWord 0xF4240000#32 = .ok (.sdc1 1 4 0) ∧ decodeWord 0x46022180#32 = .ok (.addS 2 4 6) ∧
  decodeWord 0x0022001A#32 = .ok (.div 1 2) ∧ decodeWord 0x46002188#32 = .ok (.roundLS 4 6)

/-- When no interrupt is taken and the word fetched at the program counter decodes to `i`, the step is `i` on the state after
delivery and the fetch (which changes nothing when it reads RAM), and time advances after a completion or an exception and not after a
halt or a refusal (R26). `i` is well-formed. -/
def Obligations.StepRunsDecodedInstruction : Prop :=
  ∀ (s u : State) (w : Word) (i : Instr), s.stop = false → s.deliverEvents.interruptPending = false →
    s.deliverEvents.fetch s.deliverEvents.pc = .ok (w, u) → decodeWord w = .ok i →
    i.wellFormed = true ∧ (s.notRam = [] → u = s.deliverEvents) ∧
    (∀ t, exec i u = .next t → step s = .next t.advanceTime) ∧
    (∀ f, exec i u = .fault f → step s = .fault f) ∧
    (∀ r, exec i u = .refused r → step s = .refused r)

/-- From an aligned `pc` that translates, a fetch gives the big-endian word at the physical address, bits 31:24 at the lowest one (R131,
R82, R86): of RAM the bytes of memory, and then nothing changes (R85); of anything else what the platform answers, and the port
transcript keeps the transaction (log 30). A fetch that raises is handled as a raise of the instruction: AddressError for a misaligned
program counter, TLBMiss for an unmapped one, and time advances (R26, R86). -/
def Obligations.FetchReadsTheWordOrRaises : Prop :=
  (∀ (s : State) (pa : Word), s.pc.extractLsb' 0 2 = 0 → s.translate .fetch s.pc = .ok pa →
     let m (k : Nat) : Byte :=
       if s.isRam (pa.toNat + k) then s.mem.readByte (pa.toNat + k) else byteOf (Config.physRead s.port s.time pa 4) 4 k
     s.fetch s.pc = .ok (m 0 ++ m 1 ++ m 2 ++ m 3, s.afterRead pa 4) ∧
     ((∀ k < 4, s.isRam (pa.toNat + k) = true) → s.afterRead pa 4 = s)) ∧
  ∀ s : State, s.stop = false → s.deliverEvents.interruptPending = false →
    (s.deliverEvents.pc.extractLsb' 0 2 ≠ 0 →
      step s = .next (s.deliverEvents.exceptionEntry (.addressError .fetch s.deliverEvents.pc)).advanceTime) ∧
    (s.deliverEvents.pc.extractLsb' 0 2 = 0 →
      s.deliverEvents.translate .fetch s.deliverEvents.pc = .raise (.tlbMiss .fetch s.deliverEvents.pc) →
      step s = .next (s.deliverEvents.exceptionEntry (.tlbMiss .fetch s.deliverEvents.pc)).advanceTime)

/-- A reserved word halts, whatever Status.CU1 says (R149); and once `stop` is 1 there is no step (R64, R552). -/
def Obligations.ReservedWordHalts : Prop :=
  (∀ (s u : State) (w : Word) (e : DecodeError), s.stop = false → s.deliverEvents.interruptPending = false →
    s.deliverEvents.fetch s.deliverEvents.pc = .ok (w, u) → decodeWord w = .error e →
    step s = .fault (.halt .reservedInstruction) ∧ s.stopOutput = true) ∧
  ∀ s : State, s.stop = true → step s = .fault .stopped ∧ s.stopOutput = true

/-- `InterruptEnabledAndPending()` bit by bit, and what a step does when it holds: it takes Interrupt and executes nothing
(R558, R551, R565). -/
def Obligations.InterruptEndsTheStep : Prop :=
  (∀ s : State, s.interruptPending = true ↔
    s.cp0.status.getLsbD 0 = true ∧ s.cp0.status.getLsbD 1 = false ∧ s.cp0.status.getLsbD 2 = false ∧
      ∃ k, 8 ≤ k ∧ k ≤ 15 ∧ s.cp0.cause.getLsbD k = true ∧ s.cp0.status.getLsbD k = true) ∧
  ∀ s : State, s.stop = false → s.deliverEvents.interruptPending = true →
    step s = .next (s.deliverEvents.exceptionEntry .interrupt)

/-- `Boundary()` delivers the due events in increasing deadline, equal deadlines in the order scheduled, each once, and changes
Cause[14:10] alone (R564, R565). -/
def Obligations.DueEventsAreDeliveredInOrder : Prop :=
  ∀ s : State,
    let due := s.queue.filter (fun ev => decide (ev.deadline ≤ s.time))
    let t := s.deliverEvents
    (∃ l : List Event, l.Perm due ∧ l.Pairwise (fun a b => a.deadline ≤ b.deadline) ∧
      (∀ d, l.filter (fun ev => ev.deadline == d) = due.filter (fun ev => ev.deadline == d)) ∧
      t.cp0.cause.extractLsb' 10 5 =
        l.foldl (fun c ev => (c ||| ev.set) &&& ~~~ev.clear) (s.cp0.cause.extractLsb' 10 5)) ∧
    (∀ k, (k < 10 ∨ 14 < k) → t.cp0.cause.getLsbD k = s.cp0.cause.getLsbD k) ∧
    t.queue = s.queue.filter (fun ev => decide (s.time < ev.deadline)) ∧
    { t with queue := s.queue, cp0 := { t.cp0 with cause := s.cp0.cause } } = s

/-- `AdvanceTime()`: Count and T move by COUNT_PER_OP, and Cause.IP7 is set when Count, advancing, takes the value of Compare, and
otherwise kept; nothing else changes (R562, R563). -/
def Obligations.TimerMatchSetsIP7 : Prop :=
  ∀ s : State,
    let t := s.advanceTime
    t.cp0.count.toNat = (s.cp0.count.toNat + Config.countPerOp) % 2 ^ 32 ∧
    t.time = s.time + Config.countPerOp ∧
    (t.cp0.cause.getLsbD 15 = true ↔
      s.cp0.cause.getLsbD 15 = true ∨
        ∃ j, 1 ≤ j ∧ j ≤ Config.countPerOp ∧ (s.cp0.count.toNat + j) % 2 ^ 32 = s.cp0.compare.toNat) ∧
    (∀ k, k ≠ 15 → t.cp0.cause.getLsbD k = s.cp0.cause.getLsbD k) ∧
    { t with time := s.time, cp0 := { t.cp0 with count := s.cp0.count, cause := s.cp0.cause } } = s

/-- `ExceptionEntry(E)` field by field (R542): the address registers, CE, the code, EPC and BD only when EXL was 0, EXL, the program
counter's successor, and nothing else. -/
def Obligations.ExceptionEntryWrites : Prop :=
  ∀ (s : State) (e : Exc),
    let t := s.exceptionEntry e
    (match e with
      | .tlbMiss _ va =>
        t.cp0.badVAddr = va ∧ t.cp0.context.extractLsb' 4 19 = va.extractLsb' 13 19 ∧
          t.cp0.entryHi.extractLsb' 13 19 = va.extractLsb' 13 19
      | .addressError _ va => t.cp0.badVAddr = va ∧ t.cp0.context = s.cp0.context ∧ t.cp0.entryHi = s.cp0.entryHi
      | _ => t.cp0.badVAddr = s.cp0.badVAddr ∧ t.cp0.context = s.cp0.context ∧ t.cp0.entryHi = s.cp0.entryHi) ∧
    (∀ k, (k < 4 ∨ 22 < k) → t.cp0.context.getLsbD k = s.cp0.context.getLsbD k) ∧
    (∀ k, k < 13 → t.cp0.entryHi.getLsbD k = s.cp0.entryHi.getLsbD k) ∧
    t.cp0.cause.extractLsb' 2 5 = excCode e ∧
    (match e with
      | .coprocessorUnusable n => t.cp0.cause.extractLsb' 28 2 = n
      | _ => t.cp0.cause.extractLsb' 28 2 = s.cp0.cause.extractLsb' 28 2) ∧
    (∀ k, k ∉ [2, 3, 4, 5, 6, 28, 29, 31] → t.cp0.cause.getLsbD k = s.cp0.cause.getLsbD k) ∧
    (s.exl = false →
      t.cp0.epc = (if s.ds then s.pc - 4 else s.pc) ∧ t.cp0.cause.getLsbD 31 = s.ds) ∧
    (s.exl = true → t.cp0.epc = s.cp0.epc ∧ t.cp0.cause.getLsbD 31 = s.cp0.cause.getLsbD 31) ∧
    t.exl = true ∧ (∀ k, k ≠ 1 → t.cp0.status.getLsbD k = s.cp0.status.getLsbD k) ∧
    t.npc = t.pc + 4 ∧ t.ds = false ∧
    { t.cp0 with
      badVAddr := s.cp0.badVAddr, context := s.cp0.context, entryHi := s.cp0.entryHi, cause := s.cp0.cause,
      epc := s.cp0.epc, status := s.cp0.status } = s.cp0 ∧
    SameButEntry s t

/-- The code of every exception (R541), and the vectors (R543): the refill vector only for a TLBMiss with EXL = 0 that no entry covers,
the general one otherwise, both in the unmapped window. -/
def Obligations.ExceptionCodesAndVectors : Prop :=
  (excCode .interrupt = 0 ∧ (∀ va, excCode (.tlbMiss .load va) = 2) ∧ (∀ va, excCode (.tlbMiss .fetch va) = 2) ∧
   (∀ va, excCode (.tlbMiss .store va) = 3) ∧ (∀ va, excCode (.addressError .load va) = 4) ∧
   (∀ va, excCode (.addressError .fetch va) = 4) ∧ (∀ va, excCode (.addressError .store va) = 5) ∧
   excCode .syscall = 8 ∧ excCode .breakpoint = 9 ∧ (∀ n, excCode (.coprocessorUnusable n) = 11) ∧
   excCode .integerOverflow = 12 ∧ excCode .trap = 13) ∧
  ∀ (s : State) (e : Exc),
    let refill := s.exl = false ∧ ∃ dir va, e = .tlbMiss dir va ∧
      ∀ k : BitVec 5, va.extractLsb' 13 19 &&& ~~~(s.readTlb k).mask.setWidth 19 ≠
        (s.readTlb k).vpn2 &&& ~~~(s.readTlb k).mask.setWidth 19
    (refill → (s.exceptionEntry e).pc = if s.bev then 0xBFC00200#32 else 0x80000000#32) ∧
    (¬refill → (s.exceptionEntry e).pc = if s.bev then 0xBFC00380#32 else 0x80000180#32) ∧
    inWindow (s.exceptionEntry e).pc = true

/-- ERET (R368): with COP0 usable and EXL = 1, EXL and LLbit are cleared and control goes to EPC with no delay slot; with EXL = 0 it
halts; the rest of the state is as before. -/
def Obligations.EretReturns : Prop :=
  ∀ s : State, s.ds = false → s.cop0Usable = true →
    (s.exl = true → ∃ t, exec .eret s = .next t ∧ t.pc = s.cp0.epc ∧ t.npc = s.cp0.epc + 4 ∧ t.ds = false ∧
      t.exl = false ∧ (∀ k, k ≠ 1 → t.cp0.status.getLsbD k = s.cp0.status.getLsbD k) ∧ t.llbit = false ∧
      { t.cp0 with status := s.cp0.status } = s.cp0 ∧ t.tlb = s.tlb ∧ SameRegs s t ∧ SameHiLo s t ∧ SameFpu s t ∧
      SameHidden s t ∧ SameMemory s t) ∧
    (s.exl = false → exec .eret s = .fault (.halt .eretWithoutException))

/-- MFC0 (R361, R30): the raw cell of every register number, sign-extended; Random halts. -/
def Obligations.MoveFromCop0ReadsEveryCell : Prop :=
  ∀ (s : State) (rt : RegNum), s.cop0Usable = true →
    WritesReg (.mfc0 rt 0) s rt (s.cp0.index.signExtend 64) ∧
    WritesReg (.mfc0 rt 2) s rt (s.cp0.entryLo0.signExtend 64) ∧
    WritesReg (.mfc0 rt 3) s rt (s.cp0.entryLo1.signExtend 64) ∧
    WritesReg (.mfc0 rt 4) s rt (s.cp0.context.signExtend 64) ∧
    WritesReg (.mfc0 rt 5) s rt (s.cp0.pageMask.signExtend 64) ∧
    WritesReg (.mfc0 rt 6) s rt (s.cp0.wired.signExtend 64) ∧
    WritesReg (.mfc0 rt 7) s rt (s.cp0.reg7.signExtend 64) ∧
    WritesReg (.mfc0 rt 8) s rt (s.cp0.badVAddr.signExtend 64) ∧
    WritesReg (.mfc0 rt 9) s rt (s.cp0.count.signExtend 64) ∧
    WritesReg (.mfc0 rt 10) s rt (s.cp0.entryHi.signExtend 64) ∧
    WritesReg (.mfc0 rt 11) s rt (s.cp0.compare.signExtend 64) ∧
    WritesReg (.mfc0 rt 12) s rt (s.cp0.status.signExtend 64) ∧
    WritesReg (.mfc0 rt 13) s rt (s.cp0.cause.signExtend 64) ∧
    WritesReg (.mfc0 rt 14) s rt (s.cp0.epc.signExtend 64) ∧
    WritesReg (.mfc0 rt 15) s rt (s.cp0.prid.signExtend 64) ∧
    WritesReg (.mfc0 rt 16) s rt (s.cp0.config.signExtend 64) ∧
    WritesReg (.mfc0 rt 17) s rt (s.cp0.llAddr.signExtend 64) ∧
    WritesReg (.mfc0 rt 18) s rt (s.cp0.watchLo.signExtend 64) ∧
    WritesReg (.mfc0 rt 19) s rt (s.cp0.watchHi.signExtend 64) ∧
    WritesReg (.mfc0 rt 20) s rt (s.cp0.xContext.signExtend 64) ∧
    WritesReg (.mfc0 rt 21) s rt (s.cp0.reg21.signExtend 64) ∧
    WritesReg (.mfc0 rt 22) s rt (s.cp0.reg22.signExtend 64) ∧
    WritesReg (.mfc0 rt 23) s rt (s.cp0.reg23.signExtend 64) ∧
    WritesReg (.mfc0 rt 24) s rt (s.cp0.reg24.signExtend 64) ∧
    WritesReg (.mfc0 rt 25) s rt (s.cp0.reg25.signExtend 64) ∧
    WritesReg (.mfc0 rt 26) s rt (s.cp0.pErr.signExtend 64) ∧
    WritesReg (.mfc0 rt 27) s rt (s.cp0.cacheErr.signExtend 64) ∧
    WritesReg (.mfc0 rt 28) s rt (s.cp0.tagLo.signExtend 64) ∧
    WritesReg (.mfc0 rt 29) s rt (s.cp0.tagHi.signExtend 64) ∧
    WritesReg (.mfc0 rt 30) s rt (s.cp0.errorEpc.signExtend 64) ∧
    WritesReg (.mfc0 rt 31) s rt (s.cp0.reg31.signExtend 64) ∧
    exec (.mfc0 rt 1) s = .fault (.halt .randomRead)

/-- MTC0 to every target but Status: the registers that store their value under a mask (R372 to R376, R378, R379, R383, R385 to R387,
R389, R390); Index, Compare and Cause, the ignored targets and the unknown ones (R370, R371, R377, R380, R382, R384, R388, R391). -/
def Obligations.MoveToCop0WritesByTarget : Prop :=
  (∀ (s : State) (rt : RegNum), s.cop0Usable = true →
     let v := s.readW rt
     WritesCop0 (.mtc0 rt 2) s { s.cp0 with entryLo0 := v &&& 0x3FFFFFFF#32 } ∧
     WritesCop0 (.mtc0 rt 3) s { s.cp0 with entryLo1 := v &&& 0x3FFFFFFF#32 } ∧
     WritesCop0 (.mtc0 rt 4) s { s.cp0 with context := (v &&& 0xFF800000#32) ||| (s.cp0.context &&& 0x007FFFF0#32) } ∧
     WritesCop0 (.mtc0 rt 5) s { s.cp0 with pageMask := v &&& 0x01FFE000#32 } ∧
     WritesCop0 (.mtc0 rt 6) s { s.cp0 with wired := v &&& 0x0000003F#32 } ∧
     WritesCop0 (.mtc0 rt 9) s { s.cp0 with count := v } ∧
     WritesCop0 (.mtc0 rt 10) s { s.cp0 with entryHi := v &&& 0xFFFFE0FF#32 } ∧
     WritesCop0 (.mtc0 rt 14) s { s.cp0 with epc := v } ∧
     WritesCop0 (.mtc0 rt 16) s { s.cp0 with config := v } ∧
     WritesCop0 (.mtc0 rt 18) s { s.cp0 with watchLo := v } ∧
     WritesCop0 (.mtc0 rt 19) s { s.cp0 with watchHi := v } ∧
     WritesCop0 (.mtc0 rt 28) s { s.cp0 with tagLo := v &&& 0x0FFFFFC0#32 } ∧
     WritesCop0 (.mtc0 rt 29) s { s.cp0 with tagHi := 0 }) ∧
  ∀ (s : State) (rt : RegNum), s.cop0Usable = true →
    let v := s.readW rt
    ((v &&& 0x3F#32).toNat ≤ 31 → WritesCop0 (.mtc0 rt 0) s { s.cp0 with index := v &&& 0x8000003F#32 }) ∧
    (31 < (v &&& 0x3F#32).toNat → exec (.mtc0 rt 0) s = .fault (.halt .indexOutOfRange)) ∧
    (∃ c, WritesCop0 (.mtc0 rt 11) s { s.cp0 with compare := v, cause := c } ∧ c.getLsbD 15 = false ∧
      ∀ k, k ≠ 15 → c.getLsbD k = s.cp0.cause.getLsbD k) ∧
    (v = 0 → WritesCop0 (.mtc0 rt 13) s { s.cp0 with cause := 0 }) ∧
    (v ≠ 0 → exec (.mtc0 rt 13) s = .fault (.halt .nonZeroCauseWrite)) ∧
    (∀ rd ∈ [1#5, 8#5, 15#5, 27#5], DoesNothing (.mtc0 rt rd) s) ∧
    ∀ rd ∈ [7#5, 17#5, 20#5, 21#5, 22#5, 23#5, 24#5, 25#5, 26#5, 30#5, 31#5],
      exec (.mtc0 rt rd) s = .fault (.halt .unknownMtc0Target)

/-- MTC0 to Status (R381) stores all 32 bits; every single view `S[i]` survives, whether or not FR changes, and with FR unchanged no
floating-point register changes (R58). -/
def Obligations.StatusWriteKeepsEverySingleView : Prop :=
  ∀ (s : State) (rt : RegNum), s.cop0Usable = true →
    ∃ t, exec (.mtc0 rt 12) s = .next t ∧ t.cp0 = { s.cp0 with status := s.readW rt } ∧
      (∀ r, t.readS r = s.readS r) ∧
      ((s.readW rt).getLsbD 26 = s.cp0.status.getLsbD 26 → t.fgr = s.fgr) ∧
      t.fcr0 = s.fcr0 ∧ t.fcr31 = s.fcr31 ∧ t.tlb = s.tlb ∧ SameRegs s t ∧ SameHiLo s t ∧ t.llbit = s.llbit ∧
      t.stop = s.stop ∧ t.time = s.time ∧ t.queue = s.queue ∧ t.notRam = s.notRam ∧ t.port = s.port ∧ SameMemory s t ∧
      Sequential s t

/-- Outside kernel mode with CU0 = 0 each privileged instruction raises CoprocessorUnusable(0) and does nothing else (R360, R560, R561),
the condition on Status said bit by bit; with CU1 = 0 every COP1 instruction raises CoprocessorUnusable(1), in every mode (R400); ERET
and the branches outside a delay slot. -/
def Obligations.CoprocessorsNeedTheirEnable : Prop :=
  ((∀ s : State, s.cop0Usable = false ↔
     s.cp0.status.getLsbD 1 = false ∧ s.cp0.status.getLsbD 2 = false ∧ s.cp0.status.extractLsb' 3 2 ≠ 0 ∧
       s.cp0.status.getLsbD 28 = false) ∧
   ∀ (s : State) (i : Instr), isPrivileged i = true → s.cop0Usable = false → (i = .eret → s.ds = false) →
     Raises i s (.coprocessorUnusable 0)) ∧
  ∀ (s : State) (i : Instr), isCop1 i = true → s.cp0.status.getLsbD 29 = false →
    (controlTransfer i = true → s.ds = false) → Raises i s (.coprocessorUnusable 1)

/-- TLBWI writes the slot Index[4:0], TLBWR some slot from Wired to 31, with the entry of EntryHi, EntryLo0, EntryLo1 and PageMask; TLBWR
refuses with Wired above 31 (R94, R364, R365, R568); TLBR loads the four registers from the slot Index[4:0] (R363). -/
def Obligations.TlbReadsAndWrites : Prop :=
  (∀ s : State, s.cop0Usable = true →
     let c := s.cp0
     let e : TlbEntry :=
       { mask := c.pageMask.extractLsb' 13 12, vpn2 := c.entryHi.extractLsb' 13 19, asid := c.entryHi.extractLsb' 0 8,
         global := c.entryLo0.getLsbD 0 && c.entryLo1.getLsbD 0,
         even := { pfn := c.entryLo0.extractLsb' 6 24, cache := c.entryLo0.extractLsb' 3 3, dirty := c.entryLo0.getLsbD 2,
                   valid := c.entryLo0.getLsbD 1 },
         odd := { pfn := c.entryLo1.extractLsb' 6 24, cache := c.entryLo1.extractLsb' 3 3, dirty := c.entryLo1.getLsbD 2,
                  valid := c.entryLo1.getLsbD 1 } }
     WritesTlb .tlbwi s (c.index.extractLsb' 0 5) e ∧
     (c.wired.toNat ≤ 31 → ∃ k : BitVec 5, c.wired.toNat ≤ k.toNat ∧ WritesTlb .tlbwr s k e) ∧
     (31 < c.wired.toNat → exec .tlbwr s = .refused .wiredAbove31)) ∧
  ∀ s : State, s.cop0Usable = true →
    let e := s.readTlb (s.cp0.index.extractLsb' 0 5)
    let bit (b : Bool) : Word := if b then 1 else 0
    let lo (h : TlbHalf) : Word :=
      (h.pfn.setWidth 32 <<< 6) ||| (h.cache.setWidth 32 <<< 3) ||| (bit h.dirty <<< 2) ||| (bit h.valid <<< 1) |||
        bit e.global
    WritesCop0 .tlbr s
      { s.cp0 with
        pageMask := e.mask.setWidth 32 <<< 13
        entryHi := (e.vpn2.setWidth 32 <<< 13) ||| e.asid.setWidth 32
        entryLo0 := lo e.even
        entryLo1 := lo e.odd }

/-- TLBP (R366): Index becomes the lowest matching slot with bit 31 clear, or keeps its bits with bit 31 set when none matches. -/
def Obligations.TlbProbeFindsTheLowestMatch : Prop :=
  ∀ s : State, s.cop0Usable = true →
    let hits (k : BitVec 5) : Prop :=
      let e := s.readTlb k
      let m := ~~~e.mask.setWidth 19
      e.vpn2 &&& m = s.cp0.entryHi.extractLsb' 13 19 &&& m ∧ (e.global = true ∨ e.asid = s.cp0.entryHi.extractLsb' 0 8)
    (∀ k : BitVec 5, hits k → (∀ j : BitVec 5, j.toNat < k.toNat → ¬hits j) →
      WritesCop0 .tlbp s { s.cp0 with index := k.setWidth 32 }) ∧
    ((∀ k, ¬hits k) → WritesCop0 .tlbp s { s.cp0 with index := s.cp0.index ||| 0x80000000#32 })

/-- The unmapped window (R88): kseg0 and kseg1 reach the same 512 MiB, for every direction, whatever the mode and the TLB. -/
def Obligations.WindowTranslation : Prop :=
  ∀ (s : State) (dir : Direction) (va : Word),
    (0x80000000 ≤ va.toNat ∧ va.toNat < 0xA0000000 → s.translate dir va = .ok (va - 0x80000000#32)) ∧
    (0xA0000000 ≤ va.toNat ∧ va.toNat < 0xC0000000 → s.translate dir va = .ok (va - 0xA0000000#32)) ∧
    ∀ pa, s.translate dir va = .ok pa → inWindow va = true → pa.toNat < 0x20000000

/-- The translation property (R96): with a consistent TLB an address outside the window that a valid installable half holds translates
to the frame with the same page offset, for a store when D = 1 too; every other such address misses. -/
def Obligations.MappedTranslation : Prop :=
  ∀ (s : State) (va : Word), tlbConsistent s.tlb = true → inWindow va = false →
    (∀ (k : BitVec 5) (h : Bool), Mapped (s.readTlb k) h → InHalf (s.readTlb k) h va →
      let e := s.readTlb k
      let pa := BitVec.ofNat 32 (((e.half h).pfn.toNat * 4096) ||| (va.toNat % e.pageSize))
      s.translate .load va = .ok pa ∧ s.translate .fetch va = .ok pa ∧
      ((e.half h).dirty = true → s.translate .store va = .ok pa) ∧
      ((e.half h).dirty = false → s.translate .store va = .raise (.tlbMiss .store va))) ∧
    ((∀ (k : BitVec 5) (h : Bool), Mapped (s.readTlb k) h → ¬InHalf (s.readTlb k) h va) →
      ∀ dir, s.translate dir va = .raise (.tlbMiss dir va))

/-- `TLBConsistent()` is the condition of R98, (a) to (c); a mapped translation refuses without it; TLB writes, TLBR and TLBP never refuse
(TLBWR with Wired at most 31: R568). -/
def Obligations.TlbConsistencyIsTheRule : Prop :=
  (∀ s : State, tlbConsistent s.tlb = true ↔
    ∀ k : BitVec 5,
      let e := s.readTlb k
      e.even.valid = true ∨ e.odd.valid = true →
      e.mask ∈ [0x000#12, 0x003#12, 0x00F#12, 0x03F#12, 0x0FF#12, 0x3FF#12, 0xFFF#12] ∧
      (∀ h : Bool, (e.half h).valid = true → (e.half h).pfn &&& e.mask.setWidth 24 = 0) ∧
      ∀ j : BitVec 5, j ≠ k → ∀ (g h : Bool) (p : BitVec 20),
        ¬(Mapped e h ∧ InHalf e h (p ++ 0#12) ∧ Mapped (s.readTlb j) g ∧ InHalf (s.readTlb j) g (p ++ 0#12))) ∧
  (∀ (s : State) (dir : Direction) (va : Word), tlbConsistent s.tlb = false → inWindow va = false →
    s.translate dir va = .refuse .tlbInconsistent) ∧
  ∀ s : State, s.cop0Usable = true →
    (s.cp0.wired.toNat ≤ 31 → ∃ t, exec .tlbwr s = .next t) ∧ ∀ i ∈ [Instr.tlbwi, .tlbr, .tlbp], ∃ t, exec i s = .next t

/-- Alignment (R87, R545): the address of a halfword, word or doubleword access that is no multiple of its size raises AddressError
before anything else of the access, SC and SCD whatever LLbit is; the COP1 accesses with CU1 = 1, LDC1 and SDC1 of an odd register with
FR = 0 too (R412, R414, R554). -/
def Obligations.MisalignedAccessRaises : Prop :=
  ∀ (s : State) (b r : RegNum) (imm : Half),
    let ea := s.effAddr b imm
    (ea.toNat % 2 ≠ 0 →
      Raises (.lh b r imm) s (.addressError .load ea) ∧ Raises (.lhu b r imm) s (.addressError .load ea) ∧
      Raises (.sh b r imm) s (.addressError .store ea)) ∧
    (ea.toNat % 4 ≠ 0 →
      Raises (.lw b r imm) s (.addressError .load ea) ∧ Raises (.lwu b r imm) s (.addressError .load ea) ∧
      Raises (.ll b r imm) s (.addressError .load ea) ∧ Raises (.sw b r imm) s (.addressError .store ea) ∧
      Raises (.sc b r imm) s (.addressError .store ea) ∧
      (s.cu1 = true → Raises (.lwc1 b r imm) s (.addressError .load ea) ∧
        Raises (.swc1 b r imm) s (.addressError .store ea))) ∧
    (ea.toNat % 8 ≠ 0 →
      Raises (.ld b r imm) s (.addressError .load ea) ∧ Raises (.lld b r imm) s (.addressError .load ea) ∧
      Raises (.sd b r imm) s (.addressError .store ea) ∧ Raises (.scd b r imm) s (.addressError .store ea) ∧
      (s.cu1 = true → Raises (.ldc1 b r imm) s (.addressError .load ea) ∧
        Raises (.sdc1 b r imm) s (.addressError .store ea)))

/-- An access whose page is unmapped raises TLBMiss for the address it presents (R544): the aligned word or doubleword for LWL, LWR,
LDL, LDR, SWR and SDR, the effective address for the others; and with a TLB that is not consistent it refuses (R98). SDC1 with a valid
operand, LDC1 with any (R412, R554). -/
def Obligations.DataMissRaises : Prop :=
  ∀ (s : State) (b r : RegNum) (imm : Half),
    let ea := s.effAddr b imm
    let misses (dir : Direction) (va : Word) : Prop := s.translate dir va = .raise (.tlbMiss dir va)
    (misses .load ea →
      Raises (.lb b r imm) s (.tlbMiss .load ea) ∧ Raises (.lbu b r imm) s (.tlbMiss .load ea) ∧
      (ea.toNat % 2 = 0 → Raises (.lh b r imm) s (.tlbMiss .load ea) ∧ Raises (.lhu b r imm) s (.tlbMiss .load ea)) ∧
      (ea.toNat % 4 = 0 → Raises (.lw b r imm) s (.tlbMiss .load ea) ∧ Raises (.lwu b r imm) s (.tlbMiss .load ea) ∧
        Raises (.ll b r imm) s (.tlbMiss .load ea) ∧ (s.cu1 = true → Raises (.lwc1 b r imm) s (.tlbMiss .load ea))) ∧
      (ea.toNat % 8 = 0 → Raises (.ld b r imm) s (.tlbMiss .load ea) ∧ Raises (.lld b r imm) s (.tlbMiss .load ea) ∧
        (s.cu1 = true → Raises (.ldc1 b r imm) s (.tlbMiss .load ea)))) ∧
    (misses .load (ea &&& 0xFFFFFFFC#32) →
      Raises (.lwl b r imm) s (.tlbMiss .load (ea &&& 0xFFFFFFFC#32)) ∧
      Raises (.lwr b r imm) s (.tlbMiss .load (ea &&& 0xFFFFFFFC#32))) ∧
    (misses .load (ea &&& 0xFFFFFFF8#32) →
      Raises (.ldl b r imm) s (.tlbMiss .load (ea &&& 0xFFFFFFF8#32)) ∧
      Raises (.ldr b r imm) s (.tlbMiss .load (ea &&& 0xFFFFFFF8#32))) ∧
    (misses .store ea →
      Raises (.sb b r imm) s (.tlbMiss .store ea) ∧ Raises (.swl b r imm) s (.tlbMiss .store ea) ∧
      Raises (.sdl b r imm) s (.tlbMiss .store ea) ∧ (ea.toNat % 2 = 0 → Raises (.sh b r imm) s (.tlbMiss .store ea)) ∧
      (ea.toNat % 4 = 0 → Raises (.sw b r imm) s (.tlbMiss .store ea) ∧
        (s.llbit = true → Raises (.sc b r imm) s (.tlbMiss .store ea)) ∧
        (s.cu1 = true → Raises (.swc1 b r imm) s (.tlbMiss .store ea))) ∧
      (ea.toNat % 8 = 0 → Raises (.sd b r imm) s (.tlbMiss .store ea) ∧
        (s.llbit = true → Raises (.scd b r imm) s (.tlbMiss .store ea)) ∧
        (s.cu1 = true → s.validD r = true → Raises (.sdc1 b r imm) s (.tlbMiss .store ea)))) ∧
    (misses .store (ea &&& 0xFFFFFFFC#32) → Raises (.swr b r imm) s (.tlbMiss .store (ea &&& 0xFFFFFFFC#32))) ∧
    (misses .store (ea &&& 0xFFFFFFF8#32) → Raises (.sdr b r imm) s (.tlbMiss .store (ea &&& 0xFFFFFFF8#32))) ∧
    (tlbConsistent s.tlb = false → inWindow ea = false →
      let refuses (i : Instr) : Prop := exec i s = .refused .tlbInconsistent
      (∀ i ∈ [Instr.lb b r imm, .lbu b r imm, .lwl b r imm, .lwr b r imm, .ldl b r imm, .ldr b r imm, .sb b r imm, .swl b r imm,
        .swr b r imm, .sdl b r imm, .sdr b r imm], refuses i) ∧
      (ea.toNat % 2 = 0 → refuses (.lh b r imm) ∧ refuses (.lhu b r imm) ∧ refuses (.sh b r imm)) ∧
      (ea.toNat % 4 = 0 → refuses (.lw b r imm) ∧ refuses (.lwu b r imm) ∧ refuses (.ll b r imm) ∧ refuses (.sw b r imm) ∧
        (s.llbit = true → refuses (.sc b r imm)) ∧
        (s.cu1 = true → refuses (.lwc1 b r imm) ∧ refuses (.swc1 b r imm))) ∧
      (ea.toNat % 8 = 0 → refuses (.ld b r imm) ∧ refuses (.lld b r imm) ∧ refuses (.sd b r imm) ∧
        (s.llbit = true → refuses (.scd b r imm)) ∧
        (s.cu1 = true → refuses (.ldc1 b r imm)) ∧ (s.cu1 = true → s.validD r = true → refuses (.sdc1 b r imm))))

/-- The aligned loads (R271 to R277): the value is the bytes the port answers for the translated address, most significant first, sign-
or zero-extended; for RAM the port answers the byte of memory (R85), and the load changes nothing else. That a load with a byte which is not RAM, mixed
accesses included, adds this one transaction to the port transcript is the model's choice (log 30). -/
def Obligations.AlignedLoadsReadBigEndian : Prop :=
  ∀ (s : State) (b r : RegNum) (imm : Half) (pa : Word), s.translate .load (s.effAddr b imm) = .ok pa →
    let ea := s.effAddr b imm
    let m (n k : Nat) : Byte := s.answerByte pa n k
    (∀ n k, s.isRam (pa.toNat + k) = true → m n k = s.mem.readByte (pa.toNat + k)) ∧
    (∀ n, (∀ k < n, s.isRam (pa.toNat + k) = true) → s.afterRead pa n = s) ∧
    LoadsReg (.lb b r imm) s pa 1 r ((m 1 0).signExtend 64) ∧
    LoadsReg (.lbu b r imm) s pa 1 r ((m 1 0).setWidth 64) ∧
    (ea.toNat % 2 = 0 →
      LoadsReg (.lh b r imm) s pa 2 r ((m 2 0 ++ m 2 1).signExtend 64) ∧
      LoadsReg (.lhu b r imm) s pa 2 r ((m 2 0 ++ m 2 1).setWidth 64)) ∧
    (ea.toNat % 4 = 0 →
      LoadsReg (.lw b r imm) s pa 4 r ((m 4 0 ++ m 4 1 ++ m 4 2 ++ m 4 3).signExtend 64) ∧
      LoadsReg (.lwu b r imm) s pa 4 r ((m 4 0 ++ m 4 1 ++ m 4 2 ++ m 4 3).setWidth 64)) ∧
    (ea.toNat % 8 = 0 →
      LoadsReg (.ld b r imm) s pa 8 r (m 8 0 ++ m 8 1 ++ m 8 2 ++ m 8 3 ++ m 8 4 ++ m 8 5 ++ m 8 6 ++ m 8 7))

/-- LWL, LWR, LDL and LDR byte by byte (R278 to R281): byte `k` of the result, 0 the most significant, comes from the aligned
word or doubleword that the port answers, or stays. That a read which is not all RAM adds one transaction, that of the aligned word or
doubleword, to the port transcript is the model's choice (log 30). -/
def Obligations.UnalignedLoadsMerge : Prop :=
  (∀ (s : State) (b r : RegNum) (imm : Half) (pa : Word),
    s.translate .load (s.effAddr b imm &&& 0xFFFFFFFC#32) = .ok pa →
    let o := ((s.effAddr b imm).extractLsb' 0 2).toNat
    let byte (w : Word) (k : Nat) : Byte := w.extractLsb' (8 * (3 - k)) 8
    (∃ w : Word, LoadsReg (.lwl b r imm) s pa 4 r (w.signExtend 64) ∧
      ∀ k < 4, byte w k = if k + o < 4 then s.answerByte pa 4 (o + k) else byte (s.readW r) k) ∧
    (∃ w : Word, LoadsReg (.lwr b r imm) s pa 4 r (w.signExtend 64) ∧
      ∀ k < 4, byte w k = if 3 ≤ k + o then s.answerByte pa 4 (k + o - 3) else byte (s.readW r) k)) ∧
  ∀ (s : State) (b r : RegNum) (imm : Half) (pa : Word),
    s.translate .load (s.effAddr b imm &&& 0xFFFFFFF8#32) = .ok pa →
    let o := ((s.effAddr b imm).extractLsb' 0 3).toNat
    let byte (w : Dword) (k : Nat) : Byte := w.extractLsb' (8 * (7 - k)) 8
    (∃ w : Dword, LoadsReg (.ldl b r imm) s pa 8 r w ∧
      ∀ k < 8, byte w k = if k + o < 8 then s.answerByte pa 8 (o + k) else byte (s.readX r) k) ∧
    (∃ w : Dword, LoadsReg (.ldr b r imm) s pa 8 r w ∧
      ∀ k < 8, byte w k = if 7 ≤ k + o then s.answerByte pa 8 (k + o - 7) else byte (s.readX r) k)

/-- The aligned stores (R282 to R285): exactly the bytes of the width at the translated address change. That a
byte which is not RAM stores nothing in memory, and that a store which is not all RAM adds this one transaction to the port transcript,
is the model's choice (log 30). -/
def Obligations.AlignedStoresWriteBigEndian : Prop :=
  ∀ (s : State) (b r : RegNum) (imm : Half) (pa : Word), s.translate .store (s.effAddr b imm) = .ok pa →
    let ea := s.effAddr b imm
    Stores (.sb b r imm) s pa 1 (s.readX r) ∧ (ea.toNat % 2 = 0 → Stores (.sh b r imm) s pa 2 (s.readX r)) ∧
    (ea.toNat % 4 = 0 → Stores (.sw b r imm) s pa 4 (s.readX r)) ∧
    (ea.toNat % 8 = 0 → Stores (.sd b r imm) s pa 8 (s.readX r))

/-- SWL, SWR, SDL and SDR (R286 to R289): the left forms store the most significant bytes from the effective address on, the right
forms the least significant bytes up to it. That a byte which is not RAM stores nothing in memory, and that a store which is not all RAM
adds one transaction to the port transcript, is the model's choice (log 30). -/
def Obligations.UnalignedStoresWriteTheirPart : Prop :=
  ∀ (s : State) (b r : RegNum) (imm : Half) (pa : Word),
    let ea := s.effAddr b imm
    let o4 := (ea.extractLsb' 0 2).toNat
    let o8 := (ea.extractLsb' 0 3).toNat
    (s.translate .store ea = .ok pa →
      (∃ v, Stores (.swl b r imm) s pa (4 - o4) v ∧ v.extractLsb' 0 32 = s.readW r >>> (8 * o4)) ∧
      Stores (.sdl b r imm) s pa (8 - o8) (s.readX r >>> (8 * o8))) ∧
    (s.translate .store (ea &&& 0xFFFFFFFC#32) = .ok pa → Stores (.swr b r imm) s pa (o4 + 1) (s.readX r)) ∧
    (s.translate .store (ea &&& 0xFFFFFFF8#32) = .ok pa → Stores (.sdr b r imm) s pa (o8 + 1) (s.readX r))

/-- LL and LLD (R290, R291) load as LW and LD and set LLbit; SC and SCD (R292, R293) with LLbit = 1 store, write 1 and clear LLbit, and
with LLbit = 0 write 0 and neither translate nor store. What an access that is not all RAM, mixed ones included, adds to the port
transcript, and that its bytes which are not RAM store nothing in memory, is the model's choice (log 30). -/
def Obligations.LoadLinkedAndStoreConditional : Prop :=
  (∀ (s : State) (b r : RegNum) (imm : Half) (pa : Word), s.translate .load (s.effAddr b imm) = .ok pa →
     let ea := s.effAddr b imm
     let m (n k : Nat) : Byte := s.answerByte pa n k
     let links (i : Instr) (n : Nat) (v : Dword) : Prop :=
       ∃ t, exec i s = .next t ∧ Wrote r v t ∧ t.llbit = true ∧ SameRegsBut r s t ∧ SameHiLo s t ∧ SameSystem s t ∧
         SameFpu s t ∧ SameHidden (s.afterRead pa n) t ∧ SameMemory s t ∧ Sequential s t
     (ea.toNat % 4 = 0 → links (.ll b r imm) 4 ((m 4 0 ++ m 4 1 ++ m 4 2 ++ m 4 3).signExtend 64)) ∧
     (ea.toNat % 8 = 0 →
       links (.lld b r imm) 8 (m 8 0 ++ m 8 1 ++ m 8 2 ++ m 8 3 ++ m 8 4 ++ m 8 5 ++ m 8 6 ++ m 8 7))) ∧
  ∀ (s : State) (b r : RegNum) (imm : Half),
    let ea := s.effAddr b imm
    let succeeds (i : Instr) (pa : Word) (n : Nat) : Prop :=
      ∃ t, exec i s = .next t ∧ HoldsBytes s t pa.toNat n (s.readX r) ∧ SameMemoryOutside s t pa.toNat n ∧ Wrote r 1 t ∧
        t.llbit = false ∧ SameRegsBut r s t ∧ SameHiLo s t ∧ SameSystem s t ∧ SameFpu s t ∧
        SameHidden (s.afterWrite pa n (s.readX r)) t ∧ Sequential s t
    (ea.toNat % 4 = 0 → s.llbit = true → ∀ pa, s.translate .store ea = .ok pa → succeeds (.sc b r imm) pa 4) ∧
    (ea.toNat % 8 = 0 → s.llbit = true → ∀ pa, s.translate .store ea = .ok pa → succeeds (.scd b r imm) pa 8) ∧
    (ea.toNat % 4 = 0 → s.llbit = false → WritesReg (.sc b r imm) s r 0) ∧
    (ea.toNat % 8 = 0 → s.llbit = false → WritesReg (.scd b r imm) s r 0)

/-- LLbit is set only by LL and LLD, and cleared only by SC, SCD and ERET, over all instructions (R63, R112). -/
def Obligations.LinkBitLifecycle : Prop :=
  ∀ (i : Instr) (s t : State), exec i s = .next t →
    (s.llbit = false → t.llbit = true → ∃ b r imm, i = .ll b r imm ∨ i = .lld b r imm) ∧
    (s.llbit = true → t.llbit = false → i = .eret ∨ ∃ b r imm, i = .sc b r imm ∨ i = .scd b r imm)

/-- The register and immediate instructions that cannot trap (R204 to R210, R212, R214, R216 to R222, R224, R226): value and frame, any
register as source and destination, each immediate with its extension (R142, R143). -/
def Obligations.UntrappedArithmeticResults : Prop :=
  (∀ (s : State) (rs rt rd : RegNum),
     WritesReg (.addu rs rt rd) s rd ((s.readW rs + s.readW rt).signExtend 64) ∧
     WritesReg (.subu rs rt rd) s rd ((s.readW rs - s.readW rt).signExtend 64) ∧
     WritesReg (.and rs rt rd) s rd (s.readX rs &&& s.readX rt) ∧
     WritesReg (.or rs rt rd) s rd (s.readX rs ||| s.readX rt) ∧
     WritesReg (.xor rs rt rd) s rd (s.readX rs ^^^ s.readX rt) ∧
     WritesReg (.nor rs rt rd) s rd (~~~(s.readX rs ||| s.readX rt)) ∧
     WritesReg (.slt rs rt rd) s rd (if (s.readX rs).toInt < (s.readX rt).toInt then 1 else 0) ∧
     WritesReg (.sltu rs rt rd) s rd (if (s.readX rs).toNat < (s.readX rt).toNat then 1 else 0) ∧
     WritesReg (.daddu rs rt rd) s rd (s.readX rs + s.readX rt) ∧
     WritesReg (.dsubu rs rt rd) s rd (s.readX rs - s.readX rt)) ∧
  ∀ (s : State) (rs rt : RegNum) (imm : Half),
    WritesReg (.addiu rs rt imm) s rt ((s.readW rs + imm.signExtend 32).signExtend 64) ∧
    WritesReg (.slti rs rt imm) s rt (if (s.readX rs).toInt < imm.toInt then 1 else 0) ∧
    WritesReg (.sltiu rs rt imm) s rt (if (s.readX rs).toNat < (imm.signExtend 64).toNat then 1 else 0) ∧
    WritesReg (.andi rs rt imm) s rt (s.readX rs &&& imm.setWidth 64) ∧
    WritesReg (.ori rs rt imm) s rt (s.readX rs ||| imm.setWidth 64) ∧
    WritesReg (.xori rs rt imm) s rt (s.readX rs ^^^ imm.setWidth 64) ∧
    WritesReg (.lui rt imm) s rt ((imm ++ 0#16).signExtend 64) ∧
    WritesReg (.daddiu rs rt imm) s rt (s.readX rs + imm.signExtend 64)

/-- ADD, ADDI, SUB, DADD, DADDI, DSUB (R203, R211, R213, R215, R223, R225): the exact result is written when it fits, and
IntegerOverflow is raised, with nothing written, when it does not (R547). -/
def Obligations.TrappingArithmetic : Prop :=
  ∀ (s : State) (rs rt rd : RegNum) (imm : Half),
    (let n : Int := (s.readW rs).toInt + (s.readW rt).toInt
     (-2 ^ 31 ≤ n ∧ n < 2 ^ 31 → WritesReg (.add rs rt rd) s rd ((BitVec.ofInt 32 n).signExtend 64)) ∧
      (¬(-2 ^ 31 ≤ n ∧ n < 2 ^ 31) → Raises (.add rs rt rd) s .integerOverflow)) ∧
    (let n : Int := (s.readW rs).toInt + imm.toInt
     (-2 ^ 31 ≤ n ∧ n < 2 ^ 31 → WritesReg (.addi rs rt imm) s rt ((BitVec.ofInt 32 n).signExtend 64)) ∧
      (¬(-2 ^ 31 ≤ n ∧ n < 2 ^ 31) → Raises (.addi rs rt imm) s .integerOverflow)) ∧
    (let n : Int := (s.readW rs).toInt - (s.readW rt).toInt
     (-2 ^ 31 ≤ n ∧ n < 2 ^ 31 → WritesReg (.sub rs rt rd) s rd ((BitVec.ofInt 32 n).signExtend 64)) ∧
      (¬(-2 ^ 31 ≤ n ∧ n < 2 ^ 31) → Raises (.sub rs rt rd) s .integerOverflow)) ∧
    (let n : Int := (s.readX rs).toInt + (s.readX rt).toInt
     (-2 ^ 63 ≤ n ∧ n < 2 ^ 63 → WritesReg (.dadd rs rt rd) s rd ((BitVec.ofInt 64 n))) ∧
      (¬(-2 ^ 63 ≤ n ∧ n < 2 ^ 63) → Raises (.dadd rs rt rd) s .integerOverflow)) ∧
    (let n : Int := (s.readX rs).toInt + imm.toInt
     (-2 ^ 63 ≤ n ∧ n < 2 ^ 63 → WritesReg (.daddi rs rt imm) s rt ((BitVec.ofInt 64 n))) ∧
      (¬(-2 ^ 63 ≤ n ∧ n < 2 ^ 63) → Raises (.daddi rs rt imm) s .integerOverflow)) ∧
    (let n : Int := (s.readX rs).toInt - (s.readX rt).toInt
     (-2 ^ 63 ≤ n ∧ n < 2 ^ 63 → WritesReg (.dsub rs rt rd) s rd ((BitVec.ofInt 64 n))) ∧
      (¬(-2 ^ 63 ≤ n ∧ n < 2 ^ 63) → Raises (.dsub rs rt rd) s .integerOverflow))

/-- The fifteen shifts (R227 to R241): the word forms shift the low word and sign-extend, the variable forms take 5 or 6 bits of rs
(R146). The shift amount is the field's. -/
def Obligations.ShiftResults : Prop :=
  ∀ (s : State) (rs rt rd : RegNum) (sa : Nat), sa < 32 →
    WritesReg (.sll rt rd sa) s rd (((s.readW rt) <<< (sa)).signExtend 64) ∧
    WritesReg (.sllv rs rt rd) s rd (((s.readW rt) <<< (((s.readX rs).extractLsb' 0 5).toNat)).signExtend 64) ∧
    WritesReg (.dsll rt rd sa) s rd ((s.readX rt) <<< (sa)) ∧
    WritesReg (.dsllv rs rt rd) s rd ((s.readX rt) <<< (((s.readX rs).extractLsb' 0 6).toNat)) ∧
    WritesReg (.dsll32 rt rd sa) s rd ((s.readX rt) <<< (sa + 32)) ∧
    WritesReg (.srl rt rd sa) s rd (((s.readW rt) >>> (sa)).signExtend 64) ∧
    WritesReg (.srlv rs rt rd) s rd (((s.readW rt) >>> (((s.readX rs).extractLsb' 0 5).toNat)).signExtend 64) ∧
    WritesReg (.dsrl rt rd sa) s rd ((s.readX rt) >>> (sa)) ∧
    WritesReg (.dsrlv rs rt rd) s rd ((s.readX rt) >>> (((s.readX rs).extractLsb' 0 6).toNat)) ∧
    WritesReg (.dsrl32 rt rd sa) s rd ((s.readX rt) >>> (sa + 32)) ∧
    WritesReg (.sra rt rd sa) s rd (((s.readW rt).sshiftRight (sa)).signExtend 64) ∧
    WritesReg (.srav rs rt rd) s rd (((s.readW rt).sshiftRight (((s.readX rs).extractLsb' 0 5).toNat)).signExtend 64) ∧
    WritesReg (.dsra rt rd sa) s rd ((s.readX rt).sshiftRight (sa)) ∧
    WritesReg (.dsrav rs rt rd) s rd ((s.readX rt).sshiftRight (((s.readX rs).extractLsb' 0 6).toNat)) ∧
    WritesReg (.dsra32 rt rd sa) s rd ((s.readX rt).sshiftRight (sa + 32))

/-- Every instruction that produces a word result writes its sign extension, when it completes rather than raises (R200); for the
halves of MULT, MULTU and, with a divisor that is not zero, DIV and DIVU, likewise. -/
def Obligations.WordResultsAreSignExtended : Prop :=
  (∀ (s t : State) (i : Instr) (rs rt rd : RegNum) (imm : Half) (sa : Nat),
    i ∈ [.add rs rt rd, .addu rs rt rd, .sub rs rt rd, .subu rs rt rd, .sll rt rd sa, .srl rt rd sa, .sra rt rd sa,
      .sllv rs rt rd, .srlv rs rt rd, .srav rs rt rd, .mfc0 rd rs, .mfc1 rd rs, .cfc1 rd 0, .cfc1 rd 31,
      .addi rs rd imm, .addiu rs rd imm, .lui rd imm, .lw rs rd imm, .ll rs rd imm, .lwl rs rd imm, .lwr rs rd imm] →
    exec i s = .next t → (∃ e, t = s.exceptionEntry e) ∨ t.readX rd = (low32 (t.readX rd)).signExtend 64) ∧
  ∀ (s t : State) (i : Instr) (rs rt : RegNum),
    (i ∈ [.mult rs rt, .multu rs rt] ∨ (s.readW rt ≠ 0 ∧ i ∈ [.div rs rt, .divu rs rt])) → exec i s = .next t →
    t.lo = (low32 t.lo).signExtend 64 ∧ t.hi = (low32 t.hi).signExtend 64

/-- MULT, MULTU, DMULT, DMULTU (R257, R258, R261, R262): `hi` and `lo` hold the exact product, the word forms in sign-extended halves;
MFHI, MFLO, MTHI, MTLO (R253 to R256) move all 64 bits and leave the other register. -/
def Obligations.ProductsAreExactAndHiLoMove : Prop :=
  (∀ (s : State) (rs rt : RegNum),
     (∃ h l : Word, WritesLoHi (.mult rs rt) s (l.signExtend 64) (h.signExtend 64) ∧
       (h ++ l).toInt = (s.readW rs).toInt * (s.readW rt).toInt) ∧
     (∃ h l : Word, WritesLoHi (.multu rs rt) s (l.signExtend 64) (h.signExtend 64) ∧
       (h ++ l).toNat = (s.readW rs).toNat * (s.readW rt).toNat) ∧
     (∃ h l : Dword, WritesLoHi (.dmult rs rt) s l h ∧ (h ++ l).toInt = (s.readX rs).toInt * (s.readX rt).toInt) ∧
     ∃ h l : Dword, WritesLoHi (.dmultu rs rt) s l h ∧ (h ++ l).toNat = (s.readX rs).toNat * (s.readX rt).toNat) ∧
  ∀ (s : State) (r : RegNum),
    WritesReg (.mfhi r) s r s.hi ∧ WritesReg (.mflo r) s r s.lo ∧ WritesLoHi (.mthi r) s s.lo (s.readX r) ∧
    WritesLoHi (.mtlo r) s (s.readX r) s.hi

/-- DIV, DIVU, DDIV, DDIVU with a divisor that is not zero (R259, R260, R263, R264): `n = q*d + r`, `|r| < |d|`, the remainder with the
sign of the dividend; and the one quotient that does not fit (R252). -/
def Obligations.DivisionsTruncate : Prop :=
  ∀ (s : State) (rs rt : RegNum),
    (let n := (s.readW rs).toInt
      let d := (s.readW rt).toInt
      d ≠ 0 → ¬(n = -2 ^ 31 ∧ d = -1) →
      ∃ q r : Word, WritesLoHi (.div rs rt) s (q.signExtend 64) (r.signExtend 64) ∧ n = q.toInt * d + r.toInt ∧ r.toInt.natAbs < d.natAbs ∧
        (r.toInt = 0 ∨ (r.toInt < 0 ↔ n < 0))) ∧
    (let n := (s.readW rs).toNat
      let d := (s.readW rt).toNat
      d ≠ 0 → ∃ q r : Word, WritesLoHi (.divu rs rt) s (q.signExtend 64) (r.signExtend 64) ∧ n = q.toNat * d + r.toNat ∧ r.toNat < d) ∧
    (let n := (s.readX rs).toInt
      let d := (s.readX rt).toInt
      d ≠ 0 → ¬(n = -2 ^ 63 ∧ d = -1) →
      ∃ q r : Dword, WritesLoHi (.ddiv rs rt) s (q) (r) ∧ n = q.toInt * d + r.toInt ∧ r.toInt.natAbs < d.natAbs ∧
        (r.toInt = 0 ∨ (r.toInt < 0 ↔ n < 0))) ∧
    (let n := (s.readX rs).toNat
      let d := (s.readX rt).toNat
      d ≠ 0 → ∃ q r : Dword, WritesLoHi (.ddivu rs rt) s (q) (r) ∧ n = q.toNat * d + r.toNat ∧ r.toNat < d) ∧
    (s.readW rs = 0x80000000#32 → s.readW rt = 0xFFFFFFFF#32 →
      WritesLoHi (.div rs rt) s 0xFFFFFFFF80000000#64 0) ∧
    (s.readX rs = 0x8000000000000000#64 → s.readX rt = 0xFFFFFFFFFFFFFFFF#64 →
      WritesLoHi (.ddiv rs rt) s 0x8000000000000000#64 0)

/-- With a zero divisor no exception is raised, the instruction completes, and `lo` and `hi` are the configuration's, whatever they
are (R251). -/
def Obligations.DivisionByZeroCompletes : Prop :=
  ∀ (s : State) (rs rt : RegNum),
    (s.readW rt = 0 →
      WritesLoHi (.div rs rt) s (Config.divZero32 true (s.readW rs)).1 (Config.divZero32 true (s.readW rs)).2 ∧
      WritesLoHi (.divu rs rt) s (Config.divZero32 false (s.readW rs)).1 (Config.divZero32 false (s.readW rs)).2) ∧
    (s.readX rt = 0 →
      WritesLoHi (.ddiv rs rt) s (Config.divZero64 true (s.readX rs)).1 (Config.divZero64 true (s.readX rs)).2 ∧
      WritesLoHi (.ddivu rs rt) s (Config.divZero64 false (s.readX rs)).1 (Config.divZero64 false (s.readX rs)).2)

/-- Over all instructions: `hi` and `lo` are written only by the ten instructions of R250; no instruction but CTC1 changes a bit of fcr31
other than C, and only the compares and CTC1 change C (R423, R61). -/
def Obligations.OnlyTheirWritersChangeHiLoAndFcr31 : Prop :=
  (∀ (i : Instr) (s t : State), exec i s = .next t → t.hi ≠ s.hi ∨ t.lo ≠ s.lo →
     ∃ rs rt, i ∈ [.mult rs rt, .multu rs rt, .div rs rt, .divu rs rt, .dmult rs rt, .dmultu rs rt, .ddiv rs rt,
       .ddivu rs rt, .mthi rs, .mtlo rs]) ∧
  ∀ (i : Instr) (s t : State), exec i s = .next t → t.fcr31 ≠ s.fcr31 →
    (∃ rt, i = .ctc1 rt 31) ∨
      ((∃ cond fs ft, i = compareSingle cond fs ft ∨ i = compareDouble cond fs ft) ∧
        ∀ k, k ≠ 23 → t.fcr31.getLsbD k = s.fcr31.getLsbD k)

/-- J, JAL, JR, JALR outside a delay slot (R314 to R317, R311): the delay slot is next, then the target; the link is `pc + 8`
sign-extended, and the source is read before it is written. -/
def Obligations.JumpsTransferAfterTheDelaySlot : Prop :=
  ∀ (s : State) (rs rd : RegNum) (target : BitVec 26), s.ds = false →
    let t := (s.pc + 4).extractLsb' 28 4 ++ target ++ 0#2
    let link : Dword := (s.pc + 8).signExtend 64
    Transfers (.j target) s s.npc t true ∧ TransfersLinking (.jal target) s 31 link s.npc t true ∧
    Transfers (.jr rs) s s.npc (s.readW rs) true ∧ TransfersLinking (.jalr rs rd) s rd link s.npc (s.readW rs) true

/-- The conditional branches outside a delay slot (R318 to R333, R311 to R313, R144): taken, the delay slot then the target; not taken,
the delay slot as one, or for the likely forms its skipping; the linking forms write register 31 whether or not they are taken, and
their condition reads the register before the link is written. -/
def Obligations.BranchesTakeOrFallThrough : Prop :=
  (∀ (s : State) (rs rt : RegNum) (imm : Half), s.ds = false →
     let t := s.pc + 4 + (imm.signExtend 32 <<< 2)
     let branches (i : Instr) (c : Prop) : Prop :=
       (c → Transfers i s s.npc t true) ∧ (¬c → Transfers i s s.npc (s.npc + 4) true)
     let likely (i : Instr) (c : Prop) : Prop :=
       (c → Transfers i s s.npc t true) ∧ (¬c → Transfers i s (s.npc + 4) (s.npc + 8) false)
     branches (.beq rs rt imm) (s.readX rs = s.readX rt) ∧ likely (.beql rs rt imm) (s.readX rs = s.readX rt) ∧
     branches (.bne rs rt imm) (s.readX rs ≠ s.readX rt) ∧ likely (.bnel rs rt imm) (s.readX rs ≠ s.readX rt) ∧
     branches (.blez rs imm) ((s.readX rs).toInt ≤ 0) ∧ likely (.blezl rs imm) ((s.readX rs).toInt ≤ 0) ∧
     branches (.bgtz rs imm) (0 < (s.readX rs).toInt) ∧ likely (.bgtzl rs imm) (0 < (s.readX rs).toInt) ∧
     branches (.bltz rs imm) ((s.readX rs).toInt < 0) ∧ likely (.bltzl rs imm) ((s.readX rs).toInt < 0) ∧
     branches (.bgez rs imm) (0 ≤ (s.readX rs).toInt) ∧ likely (.bgezl rs imm) (0 ≤ (s.readX rs).toInt)) ∧
  ∀ (s : State) (rs : RegNum) (imm : Half), s.ds = false →
    let t := s.pc + 4 + (imm.signExtend 32 <<< 2)
    let link : Dword := (s.pc + 8).signExtend 64
    let neg := (s.readX rs).toInt < 0
    (neg → TransfersLinking (.bltzal rs imm) s 31 link s.npc t true ∧ TransfersLinking (.bltzall rs imm) s 31 link s.npc t true ∧
      TransfersLinking (.bgezal rs imm) s 31 link s.npc (s.npc + 4) true ∧
      TransfersLinking (.bgezall rs imm) s 31 link (s.npc + 4) (s.npc + 8) false) ∧
    (¬neg → TransfersLinking (.bgezal rs imm) s 31 link s.npc t true ∧ TransfersLinking (.bgezall rs imm) s 31 link s.npc t true ∧
      TransfersLinking (.bltzal rs imm) s 31 link s.npc (s.npc + 4) true ∧
      TransfersLinking (.bltzall rs imm) s 31 link (s.npc + 4) (s.npc + 8) false)

/-- The instructions R624 names refuse in a delay slot, in every state, and nothing else does; outside one nothing refuses for it. -/
def Obligations.DelaySlotForbidsTransfers : Prop :=
  ∀ (i : Instr) (s : State), exec i s = .refused .branchInDelaySlot ↔ (s.ds = true ∧ controlTransfer i = true)

/-- The twelve traps (R344 to R355, R548): Trap when the condition holds, and otherwise nothing but the sequential advance. -/
def Obligations.TrapsRaiseWhenTheirConditionHolds : Prop :=
  ∀ (s : State) (rs rt : RegNum) (imm : Half),
    let traps (i : Instr) (c : Prop) : Prop := (c → Raises i s .trap) ∧ (¬c → DoesNothing i s)
    let x := (s.readX rs).toInt
    let xu := (s.readX rs).toNat
    (let y := (s.readX rt).toInt
      let yu := (s.readX rt).toNat
      traps (.tge rs rt) (y ≤ x) ∧
      traps (.tgeu rs rt) (yu ≤ xu) ∧
      traps (.tlt rs rt) (x < y) ∧
      traps (.tltu rs rt) (xu < yu) ∧
      traps (.teq rs rt) (x = y) ∧
      traps (.tne rs rt) (x ≠ y)) ∧
    (let y := imm.toInt
      let yu := (imm.signExtend 64).toNat
      traps (.tgei rs imm) (y ≤ x) ∧
      traps (.tgeiu rs imm) (yu ≤ xu) ∧
      traps (.tlti rs imm) (x < y) ∧
      traps (.tltiu rs imm) (xu < yu) ∧
      traps (.teqi rs imm) (x = y) ∧
      traps (.tnei rs imm) (x ≠ y))

/-- SYSCALL and BREAK take their exceptions, SYNC and CACHE do nothing, whatever the state and the operands (R340 to R343). -/
def Obligations.SystemCallsAndBarriers : Prop :=
  ∀ (s : State) (b : RegNum) (op : Nat) (imm : Half),
    Raises .syscall s .syscall ∧ Raises .break_ s .breakpoint ∧ DoesNothing .sync s ∧ DoesNothing (.cache b op imm) s

/-- MFC1, DMFC1, MTC1, DMTC1, CFC1, CTC1 with CU1 = 1 (R401 to R406); CFC1 of another control register completes with any value, here
the model's own free value (log 17). -/
def Obligations.FloatingMoves : Prop :=
  ∀ (s : State) (rt fs : RegNum), s.cu1 = true →
    WritesReg (.mfc1 rt fs) s rt ((s.readS fs).signExtend 64) ∧
    (s.validD fs = true → WritesReg (.dmfc1 rt fs) s rt (s.readD fs) ∧ WritesD (.dmtc1 rt fs) s fs (s.readX rt)) ∧
    WritesS (.mtc1 rt fs) s fs (s.readW rt) ∧
    WritesReg (.cfc1 rt 0) s rt (s.fcr0.signExtend 64) ∧ WritesReg (.cfc1 rt 31) s rt (s.fcr31.signExtend 64) ∧
    (fs ≠ 0 → fs ≠ 31 → ∃ t v, exec (.cfc1 rt fs) s = .next t ∧ Wrote rt v t ∧ SameRegsBut rt s t ∧ SameHiLo s t ∧
      SameSystem s t ∧ SameFpu s t ∧ t.llbit = s.llbit ∧ SameMemory s t ∧ t.stop = s.stop ∧ t.time = s.time ∧
      t.queue = s.queue ∧ t.notRam = s.notRam ∧ t.port = s.port ∧ Sequential s t) ∧
    (∃ t, exec (.ctc1 rt 31) s = .next t ∧ t.fcr31 = s.readW rt ∧ t.fcr0 = s.fcr0 ∧ t.fgr = s.fgr ∧ SameRegs s t ∧
      SameHiLo s t ∧ SameSystem s t ∧ SameHidden s t ∧ t.llbit = s.llbit ∧ SameMemory s t ∧ Sequential s t) ∧
    (fs ≠ 31 → DoesNothing (.ctc1 rt fs) s)

/-- LWC1, LDC1, SWC1, SDC1 with CU1 = 1 and an aligned mapped address (R411 to R414): bit copies through the views. What an access that
is not all RAM adds to the port transcript, and that its bytes which are not RAM store nothing in memory, is the model's choice
(log 30). -/
def Obligations.FloatingLoadsAndStores : Prop :=
  ∀ (s : State) (b ft : RegNum) (imm : Half) (pa : Word), s.cu1 = true →
    let ea := s.effAddr b imm
    let m (n k : Nat) : Byte := s.answerByte pa n k
    (s.translate .load ea = .ok pa →
      (ea.toNat % 4 = 0 → WritesSOver (.lwc1 b ft imm) s (s.afterRead pa 4) ft (m 4 0 ++ m 4 1 ++ m 4 2 ++ m 4 3)) ∧
      (ea.toNat % 8 = 0 → s.validD ft = true →
        WritesDOver (.ldc1 b ft imm) s (s.afterRead pa 8) ft
          (m 8 0 ++ m 8 1 ++ m 8 2 ++ m 8 3 ++ m 8 4 ++ m 8 5 ++ m 8 6 ++ m 8 7))) ∧
    (s.translate .store ea = .ok pa →
      (ea.toNat % 4 = 0 → Stores (.swc1 b ft imm) s pa 4 ((s.readS ft).setWidth 64)) ∧
      (ea.toNat % 8 = 0 → s.validD ft = true → Stores (.sdc1 b ft imm) s pa 8 (s.readD ft)))

/-- BC1F, BC1T, BC1FL, BC1TL with CU1 = 1 outside a delay slot (R407 to R410): they test `fcr31[23]`. -/
def Obligations.FloatingBranches : Prop :=
  ∀ (s : State) (imm : Half), s.cu1 = true → s.ds = false →
    let t := s.pc + 4 + (imm.signExtend 32 <<< 2)
    (s.fcr31.getLsbD 23 = true →
      Transfers (.bc1t imm) s s.npc t true ∧ Transfers (.bc1tl imm) s s.npc t true ∧
      Transfers (.bc1f imm) s s.npc (s.npc + 4) true ∧ Transfers (.bc1fl imm) s (s.npc + 4) (s.npc + 8) false) ∧
    (s.fcr31.getLsbD 23 = false →
      Transfers (.bc1f imm) s s.npc t true ∧ Transfers (.bc1fl imm) s s.npc t true ∧
      Transfers (.bc1t imm) s s.npc (s.npc + 4) true ∧ Transfers (.bc1tl imm) s (s.npc + 4) (s.npc + 8) false)

/-- The arithmetic instructions with CU1 = 1 and valid operands (R424 to R439): only the destination view changes; ABS, MOV and NEG are
bit operations on the sign, NaN patterns included; the others write the rounded operation of R421, whose value three later statements
give, or the NaN of R422. -/
def Obligations.FloatingArithmeticCompletes : Prop :=
  (∀ (s : State) (fs ft fd : RegNum), s.cu1 = true →
     let rm := s.roundMode
     WritesS (.addS ft fs fd) s fd (add32 rm (s.readS fs) (s.readS ft)) ∧
     WritesS (.subS ft fs fd) s fd (sub32 rm (s.readS fs) (s.readS ft)) ∧
     WritesS (.mulS ft fs fd) s fd (mul32 rm (s.readS fs) (s.readS ft)) ∧
     WritesS (.divS ft fs fd) s fd (div32 rm (s.readS fs) (s.readS ft)) ∧
     WritesS (.sqrtS fs fd) s fd (sqrt32 rm (s.readS fs)) ∧
     (s.validD fs = true → s.validD ft = true → s.validD fd = true →
       WritesD (.addD ft fs fd) s fd (add64 rm (s.readD fs) (s.readD ft)) ∧
       WritesD (.subD ft fs fd) s fd (sub64 rm (s.readD fs) (s.readD ft)) ∧
       WritesD (.mulD ft fs fd) s fd (mul64 rm (s.readD fs) (s.readD ft)) ∧
       WritesD (.divD ft fs fd) s fd (div64 rm (s.readD fs) (s.readD ft)) ∧
       WritesD (.sqrtD fs fd) s fd (sqrt64 rm (s.readD fs)))) ∧
  ∀ (s : State) (fs fd : RegNum), s.cu1 = true →
    WritesS (.absS fs fd) s fd (s.readS fs &&& 0x7FFFFFFF#32) ∧ WritesS (.movS fs fd) s fd (s.readS fs) ∧
    WritesS (.negS fs fd) s fd (s.readS fs ^^^ 0x80000000#32) ∧
    (s.validD fs = true → s.validD fd = true →
      WritesD (.absD fs fd) s fd (s.readD fs &&& 0x7FFFFFFFFFFFFFFF#64) ∧ WritesD (.movD fs fd) s fd (s.readD fs) ∧
      WritesD (.negD fs fd) s fd (s.readD fs ^^^ 0x8000000000000000#64))

/-- Correct rounding (R421) of add, subtract, multiply and divide on finite operands whose exact result is not zero, in both formats
and all four directions. -/
def Obligations.ArithmeticIsCorrectlyRounded : Prop :=
  ∀ (rm : RoundMode),
    (∀ (a b : Word) (x y : ℝ), HasValue (value32 a) x → HasValue (value32 b) y →
      (x + y ≠ 0 → CorrectlyRounded single rm (x + y) (add32 rm a b).toNat) ∧
      (x - y ≠ 0 → CorrectlyRounded single rm (x - y) (sub32 rm a b).toNat) ∧
      (x * y ≠ 0 → CorrectlyRounded single rm (x * y) (mul32 rm a b).toNat) ∧
      (x ≠ 0 → y ≠ 0 → CorrectlyRounded single rm (x / y) (div32 rm a b).toNat)) ∧
    ∀ (a b : Dword) (x y : ℝ), HasValue (value64 a) x → HasValue (value64 b) y →
      (x + y ≠ 0 → CorrectlyRounded double rm (x + y) (add64 rm a b).toNat) ∧
      (x - y ≠ 0 → CorrectlyRounded double rm (x - y) (sub64 rm a b).toNat) ∧
      (x * y ≠ 0 → CorrectlyRounded double rm (x * y) (mul64 rm a b).toNat) ∧
      (x ≠ 0 → y ≠ 0 → CorrectlyRounded double rm (x / y) (div64 rm a b).toNat)

/-- Correct rounding (R421, R453) of the square root of a positive value, of CVT.S.D, and of the integer to floating-point conversions;
CVT.D.S of a finite value is exact (R474). -/
def Obligations.RootsAndConversionsAreCorrectlyRounded : Prop :=
  (∀ (rm : RoundMode) (a : Word) (x y : ℝ), HasValue (value32 a) x → 0 < y → y * y = x →
    CorrectlyRounded single rm y (sqrt32 rm a).toNat) ∧
  (∀ (rm : RoundMode) (a : Dword) (x y : ℝ), HasValue (value64 a) x → 0 < y → y * y = x →
    CorrectlyRounded double rm y (sqrt64 rm a).toNat) ∧
  (∀ (rm : RoundMode) (a : Dword) (x : ℝ), HasValue (value64 a) x → x ≠ 0 →
    CorrectlyRounded single rm x (cvt32of64 rm a).toNat) ∧
  (∀ (a : Word) (x : ℝ), HasValue (value32 a) x → HasValue (value64 (cvt64of32 a)) x) ∧
  (∀ (rm : RoundMode) (i : Int), i ≠ 0 → i.natAbs ≤ 2 ^ 63 →
    CorrectlyRounded single rm i (fromInt32 rm i).toNat ∧ CorrectlyRounded double rm i (fromInt64 rm i).toNat)

/-- A NaN operand and every invalid operation give the configuration's NaN of the destination format, which is a NaN whatever the
configuration (R422). The infinities and the zero results of add, subtract, multiply, divide and square root, every sign and either
side, with the direction of rounding where it decides a zero's sign (R421, R424, R426, R428, R430, R432); CVT.S.D and CVT.D.S of NaNs,
infinities and zeros (R471, R474); the integer 0 (R453). -/
def Obligations.FloatingSpecialValues : Prop :=
  (∀ src, IsNaN32 (Config.nanResult32 src)) ∧ (∀ src, IsNaN64 (Config.nanResult64 src)) ∧
  (∀ (rm : RoundMode) (a b : Word),
    let A := value32 a
    let B := value32 b
    let nan := IsNaN32 a ∨ IsNaN32 b
    (nan ∨ (∃ p, A = .inf p ∧ B = .inf (!p)) → add32 rm a b = Config.nanResult32 (.add a b)) ∧
    (nan ∨ (∃ p, A = .inf p ∧ B = .inf p) → sub32 rm a b = Config.nanResult32 (.sub a b)) ∧
    (nan ∨ (∃ p, (A = .inf p ∧ HasValue B 0) ∨ (HasValue A 0 ∧ B = .inf p)) →
      mul32 rm a b = Config.nanResult32 (.mul a b)) ∧
    (nan ∨ (HasValue A 0 ∧ HasValue B 0) ∨ (∃ p q, A = .inf p ∧ B = .inf q) →
      div32 rm a b = Config.nanResult32 (.div a b)) ∧
    (IsNaN32 a ∨ A = .inf true ∨ (∃ x < 0, HasValue A x) → sqrt32 rm a = Config.nanResult32 (.sqrt a))) ∧
  (∀ (rm : RoundMode) (a b : Dword),
    let A := value64 a
    let B := value64 b
    let nan := IsNaN64 a ∨ IsNaN64 b
    (nan ∨ (∃ p, A = .inf p ∧ B = .inf (!p)) → add64 rm a b = Config.nanResult64 (.add a b)) ∧
    (nan ∨ (∃ p, A = .inf p ∧ B = .inf p) → sub64 rm a b = Config.nanResult64 (.sub a b)) ∧
    (nan ∨ (∃ p, (A = .inf p ∧ HasValue B 0) ∨ (HasValue A 0 ∧ B = .inf p)) →
      mul64 rm a b = Config.nanResult64 (.mul a b)) ∧
    (nan ∨ (HasValue A 0 ∧ HasValue B 0) ∨ (∃ p q, A = .inf p ∧ B = .inf q) →
      div64 rm a b = Config.nanResult64 (.div a b)) ∧
    (IsNaN64 a ∨ A = .inf true ∨ (∃ x < 0, HasValue A x) → sqrt64 rm a = Config.nanResult64 (.sqrt a))) ∧
  (∀ (rm : RoundMode) (a b : Word),
    let A := value32 a
    let B := value32 b
    let sa := a.getLsbD 31
    let sb := b.getLsbD 31
    let inf (neg : Bool) : Word := if neg then 0xFF800000#32 else 0x7F800000#32
    let zero (neg : Bool) : Word := if neg then 0x80000000#32 else 0
    (∀ p x, (A = .inf p ∧ (HasValue B x ∨ B = .inf p)) ∨ (HasValue A x ∧ B = .inf p) → add32 rm a b = inf p) ∧
    (∀ x y, HasValue A x → HasValue B y → x + y = 0 →
      add32 rm a b = if x = 0 ∧ sa = sb then zero sa else zero (decide (rm = .down))) ∧
    (∀ p x, (A = .inf p ∧ (HasValue B x ∨ B = .inf (!p))) ∨ (HasValue A x ∧ B = .inf (!p)) → sub32 rm a b = inf p) ∧
    (∀ x y, HasValue A x → HasValue B y → x - y = 0 →
      sub32 rm a b = if x = 0 ∧ sa = !sb then zero sa else zero (decide (rm = .down))) ∧
    (∀ p q x, x ≠ 0 → (A = .inf p ∧ (HasValue B x ∨ B = .inf q)) ∨ (HasValue A x ∧ B = .inf q) →
      mul32 rm a b = inf (sa != sb)) ∧
    (∀ x y, HasValue A x → HasValue B y → x * y = 0 → mul32 rm a b = zero (sa != sb)) ∧
    (∀ p x y, (A = .inf p ∧ HasValue B y) ∨ (x ≠ 0 ∧ HasValue A x ∧ HasValue B 0) → div32 rm a b = inf (sa != sb)) ∧
    (∀ q x y, (HasValue A x ∧ B = .inf q) ∨ (y ≠ 0 ∧ HasValue A 0 ∧ HasValue B y) → div32 rm a b = zero (sa != sb)) ∧
    (A = .inf false → sqrt32 rm a = inf false) ∧ (HasValue A 0 → sqrt32 rm a = zero sa)) ∧
  (∀ (rm : RoundMode) (a b : Dword),
    let A := value64 a
    let B := value64 b
    let sa := a.getLsbD 63
    let sb := b.getLsbD 63
    let inf (neg : Bool) : Dword := if neg then 0xFFF0000000000000#64 else 0x7FF0000000000000#64
    let zero (neg : Bool) : Dword := if neg then 0x8000000000000000#64 else 0
    (∀ p x, (A = .inf p ∧ (HasValue B x ∨ B = .inf p)) ∨ (HasValue A x ∧ B = .inf p) → add64 rm a b = inf p) ∧
    (∀ x y, HasValue A x → HasValue B y → x + y = 0 →
      add64 rm a b = if x = 0 ∧ sa = sb then zero sa else zero (decide (rm = .down))) ∧
    (∀ p x, (A = .inf p ∧ (HasValue B x ∨ B = .inf (!p))) ∨ (HasValue A x ∧ B = .inf (!p)) → sub64 rm a b = inf p) ∧
    (∀ x y, HasValue A x → HasValue B y → x - y = 0 →
      sub64 rm a b = if x = 0 ∧ sa = !sb then zero sa else zero (decide (rm = .down))) ∧
    (∀ p q x, x ≠ 0 → (A = .inf p ∧ (HasValue B x ∨ B = .inf q)) ∨ (HasValue A x ∧ B = .inf q) →
      mul64 rm a b = inf (sa != sb)) ∧
    (∀ x y, HasValue A x → HasValue B y → x * y = 0 → mul64 rm a b = zero (sa != sb)) ∧
    (∀ p x y, (A = .inf p ∧ HasValue B y) ∨ (x ≠ 0 ∧ HasValue A x ∧ HasValue B 0) → div64 rm a b = inf (sa != sb)) ∧
    (∀ q x y, (HasValue A x ∧ B = .inf q) ∨ (y ≠ 0 ∧ HasValue A 0 ∧ HasValue B y) → div64 rm a b = zero (sa != sb)) ∧
    (A = .inf false → sqrt64 rm a = inf false) ∧ (HasValue A 0 → sqrt64 rm a = zero sa)) ∧
  (∀ (rm : RoundMode) (a : Dword), IsNaN64 a → cvt32of64 rm a = Config.nanResult32 (.cvtD a)) ∧
  (∀ a : Word, IsNaN32 a → cvt64of32 a = Config.nanResult64 (.cvtS a)) ∧
  (∀ (rm : RoundMode) (a : Dword),
    (∀ p, value64 a = .inf p → cvt32of64 rm a = if p then 0xFF800000#32 else 0x7F800000#32) ∧
    (HasValue (value64 a) 0 → cvt32of64 rm a = if a.getLsbD 63 then 0x80000000#32 else 0)) ∧
  (∀ a : Word,
    (∀ p, value32 a = .inf p → cvt64of32 a = if p then 0xFFF0000000000000#64 else 0x7FF0000000000000#64) ∧
    (HasValue (value32 a) 0 → cvt64of32 a = if a.getLsbD 31 then 0x8000000000000000#64 else 0)) ∧
  ∀ rm : RoundMode, fromInt32 rm 0 = 0 ∧ fromInt64 rm 0 = 0

/-- The twenty-six conversions with CU1 = 1 and valid operands (R450, R455 to R480): which view is read, which written, and the rounding
mode each uses; the values are those of ConversionToIntegerIsExact and RootsAndConversionsAreCorrectlyRounded. -/
def Obligations.ConversionsComplete : Prop :=
  ∀ (s : State) (fs fd : RegNum), s.cu1 = true →
    WritesS (.roundWS fs fd) s fd (toInt32 .nearest (.single (s.readS fs))) ∧
    (s.validD fs = true → WritesS (.roundWD fs fd) s fd (toInt32 .nearest (.double (s.readD fs)))) ∧
    (s.validD fd = true → WritesD (.roundLS fs fd) s fd (toInt64 .nearest (.single (s.readS fs)))) ∧
    (s.validD fs = true → s.validD fd = true → WritesD (.roundLD fs fd) s fd (toInt64 .nearest (.double (s.readD fs)))) ∧
    WritesS (.truncWS fs fd) s fd (toInt32 .zero (.single (s.readS fs))) ∧
    (s.validD fs = true → WritesS (.truncWD fs fd) s fd (toInt32 .zero (.double (s.readD fs)))) ∧
    (s.validD fd = true → WritesD (.truncLS fs fd) s fd (toInt64 .zero (.single (s.readS fs)))) ∧
    (s.validD fs = true → s.validD fd = true → WritesD (.truncLD fs fd) s fd (toInt64 .zero (.double (s.readD fs)))) ∧
    WritesS (.ceilWS fs fd) s fd (toInt32 .up (.single (s.readS fs))) ∧
    (s.validD fs = true → WritesS (.ceilWD fs fd) s fd (toInt32 .up (.double (s.readD fs)))) ∧
    (s.validD fd = true → WritesD (.ceilLS fs fd) s fd (toInt64 .up (.single (s.readS fs)))) ∧
    (s.validD fs = true → s.validD fd = true → WritesD (.ceilLD fs fd) s fd (toInt64 .up (.double (s.readD fs)))) ∧
    WritesS (.floorWS fs fd) s fd (toInt32 .down (.single (s.readS fs))) ∧
    (s.validD fs = true → WritesS (.floorWD fs fd) s fd (toInt32 .down (.double (s.readD fs)))) ∧
    (s.validD fd = true → WritesD (.floorLS fs fd) s fd (toInt64 .down (.single (s.readS fs)))) ∧
    (s.validD fs = true → s.validD fd = true → WritesD (.floorLD fs fd) s fd (toInt64 .down (.double (s.readD fs)))) ∧
    WritesS (.cvtWS fs fd) s fd (toInt32 s.roundMode (.single (s.readS fs))) ∧
    (s.validD fs = true → WritesS (.cvtWD fs fd) s fd (toInt32 s.roundMode (.double (s.readD fs)))) ∧
    (s.validD fd = true → WritesD (.cvtLS fs fd) s fd (toInt64 s.roundMode (.single (s.readS fs)))) ∧
    (s.validD fs = true → s.validD fd = true → WritesD (.cvtLD fs fd) s fd (toInt64 s.roundMode (.double (s.readD fs)))) ∧
    WritesS (.cvtSW fs fd) s fd (fromInt32 s.roundMode (s.readS fs).toInt) ∧
    (s.validD fs = true → WritesS (.cvtSD fs fd) s fd (cvt32of64 s.roundMode (s.readD fs)) ∧
      WritesS (.cvtSL fs fd) s fd (fromInt32 s.roundMode (s.readD fs).toInt)) ∧
    (s.validD fd = true → WritesD (.cvtDS fs fd) s fd (cvt64of32 (s.readS fs)) ∧
      WritesD (.cvtDW fs fd) s fd (fromInt64 s.roundMode (s.readS fs).toInt)) ∧
    (s.validD fs = true → s.validD fd = true →
      WritesD (.cvtDL fs fd) s fd (fromInt64 s.roundMode (s.readD fs).toInt))

/-- `ToInt_N` (R451, R452): a finite value rounds to the integer the mode says and is written when it is in range, the range test being
on the rounded value; otherwise the configuration decides. -/
def Obligations.ConversionToIntegerIsExact : Prop :=
  ∀ (rm : RoundMode) (src : CvtSource),
    (∀ x : ℝ, HasValue (sourceValue src) x →
      ∃ r : Int,
        (match rm with
          | .nearest => |x - r| ≤ 1 / 2 ∧ (|x - r| = 1 / 2 → r % 2 = 0)
          | .zero => |(r : ℝ)| ≤ |x| ∧ |x| < |(r : ℝ)| + 1 ∧ 0 ≤ x * r
          | .up => r = ⌈x⌉
          | .down => r = ⌊x⌋) ∧
        (-2 ^ 31 ≤ r ∧ r < 2 ^ 31 → (toInt32 rm src).toInt = r) ∧
        (¬(-2 ^ 31 ≤ r ∧ r < 2 ^ 31) → toInt32 rm src = Config.cvtInvalid32 src rm) ∧
        (-2 ^ 63 ≤ r ∧ r < 2 ^ 63 → (toInt64 rm src).toInt = r) ∧
        (¬(-2 ^ 63 ≤ r ∧ r < 2 ^ 63) → toInt64 rm src = Config.cvtInvalid64 src rm)) ∧
    ((∀ x : ℝ, ¬HasValue (sourceValue src) x) →
      toInt32 rm src = Config.cvtInvalid32 src rm ∧ toInt64 rm src = Config.cvtInvalid64 src rm)

/-- The compare law (R454) for all thirty-two compares with CU1 = 1 and valid operands: C is the OR of the relations that bits 2, 1, 0
of the code select; bit 3 makes an unordered pair halt; finite values compare as reals, zeros of either sign alike. -/
def Obligations.ComparesWriteTheCondition : Prop :=
  ∀ (s : State) (cond : BitVec 4) (fs ft : RegNum), s.cu1 = true →
    let holds (a b : FpValue) (nan : Prop) (i : Instr) : Prop :=
      (∀ x y : ℝ, HasValue a x → HasValue b y →
        WritesCondition i s ((decide (x < y) && cond.getLsbD 2) || (decide (x = y) && cond.getLsbD 1))) ∧
      (nan → cond.getLsbD 3 = true → exec i s = .fault (.halt .fpInvalidOperation)) ∧
      (nan → cond.getLsbD 3 = false → WritesCondition i s (cond.getLsbD 0)) ∧
      (∀ (p : Bool) (y : ℝ), a = .inf p → HasValue b y → WritesCondition i s (p && cond.getLsbD 2)) ∧
      (∀ (p : Bool) (x : ℝ), HasValue a x → b = .inf p → WritesCondition i s (!p && cond.getLsbD 2)) ∧
      (∀ p q : Bool, a = .inf p → b = .inf q →
        WritesCondition i s ((p && !q && cond.getLsbD 2) || (p == q && cond.getLsbD 1)))
    holds (value32 (s.readS fs)) (value32 (s.readS ft)) (IsNaN32 (s.readS fs) ∨ IsNaN32 (s.readS ft))
      (compareSingle cond fs ft) ∧
    (s.validD fs = true → s.validD ft = true →
      holds (value64 (s.readD fs)) (value64 (s.readD ft)) (IsNaN64 (s.readD fs) ∨ IsNaN64 (s.readD ft))
        (compareDouble cond fs ft))

/-- With FR = 0 an instruction that names an odd register in the double view refuses (R57): the moves, arithmetic, conversions and
compares; LDC1 from an aligned address that translates, SDC1 to an aligned one (R412, R414, R554). That SDC1 refuses before its address
is translated is the model's reading of the pseudocode (log 10). -/
def Obligations.OddDoublesRefuse : Prop :=
  ∀ (s : State) (r q b : RegNum) (imm : Half) (cond : BitVec 4), s.cu1 = true → s.cp0.status.getLsbD 26 = false →
    r.getLsbD 0 = true →
    (∀ pa, (s.effAddr b imm).toNat % 8 = 0 → s.translate .load (s.effAddr b imm) = .ok pa →
      exec (.ldc1 b r imm) s = .refused .oddDouble) ∧
    ((s.effAddr b imm).toNat % 8 = 0 → exec (.sdc1 b r imm) s = .refused .oddDouble) ∧
    ∀ i ∈ [.dmfc1 b r, .dmtc1 b r, .addD q r b, .addD r q b, .addD q b r, .subD q r b,
      .subD r q b, .subD q b r, .mulD q r b, .mulD r q b, .mulD q b r, .divD q r b, .divD r q b, .divD q b r, .sqrtD r q,
      .sqrtD q r, .absD r q, .absD q r, .movD r q, .movD q r, .negD r q, .negD q r, .roundLS q r, .roundLD r q, .roundLD q r,
      .roundWD r q, .truncLS q r, .truncLD r q, .truncLD q r, .truncWD r q, .ceilLS q r, .ceilLD r q, .ceilLD q r,
      .ceilWD r q, .floorLS q r, .floorLD r q, .floorLD q r, .floorWD r q, .cvtSD r q, .cvtSL r q, .cvtDS q r, .cvtDW q r,
      .cvtDL r q, .cvtDL q r, .cvtWD r q, .cvtLS q r, .cvtLD r q, .cvtLD q r, compareDouble cond r q,
      compareDouble cond q r], exec i s = .refused .oddDouble

/-- Every step keeps the canonical form of memory (log 5) and every listed physical address below 512 MiB (R81, R93). That a step
changes no byte which is not RAM is the model's choice of where the effect of such a write goes (logs 6 and 30). -/
def Obligations.StepKeepsMemoryWellFormed : Prop :=
  (∀ s t : State, s.memCanonical → step s = .next t → t.memCanonical) ∧
  (∀ s t : State, s.memInRange → step s = .next t → t.memInRange) ∧
  ∀ s t : State, step s = .next t → ∀ a, s.isRam a = false → t.mem.readByte a = s.mem.readByte a

/-- Every step keeps zero the COP0 bits that no write can set (R31, R33 to R36, R39, R42, R50), and outside a delay slot the next
instruction is at `pc + 4` (R25). -/
def Obligations.StepKeepsReservedBitsZero : Prop :=
  ∀ s t : State, s.cp0.reservedZero → s.sequenced → step s = .next t → t.cp0.reservedZero ∧ t.sequenced

/-- No step changes a read-only register or a cell that nothing writes (R44, R46, R48, R49, R51, R52, R59), the hidden time never goes
back (R67), and a running machine that answers a state is still running. That no step changes which addresses are RAM is the
model's choice (log 6), and that the port transcript only grows, and not at all where everything is RAM, is the model's choice too
(log 30). -/
def Obligations.StepKeepsTheConstants : Prop :=
  ∀ s t : State, step s = .next t →
    State.sameConstants s t ∧ s.time ≤ t.time ∧ t.stop = s.stop ∧ t.notRam = s.notRam ∧
      (∃ l, t.port = l ++ s.port) ∧ (s.notRam = [] → t.port = s.port)

/-- The machine after reset meets every invariant of these statements, and the reset input leaves every byte of memory, its canonical
form and the platform's declaration of RAM: derived, since it rests on the values the model chose for what R602 leaves unspecified
(logs 1, 5) and on its choice that a reset leaves memory to the platform (log 31). -/
def Obligations.ResetMeetsTheInvariants : Prop :=
  (State.reset.memCanonical ∧ State.reset.memInRange ∧ State.reset.cp0.reservedZero ∧ State.reset.sequenced) ∧
  ∀ s f : State, SameMemory s (s.hostReset f) ∧ (s.hostReset f).notRam = s.notRam ∧ (s.hostReset f).sequenced ∧
    (s.memCanonical → (s.hostReset f).memCanonical) ∧ (s.memInRange → (s.hostReset f).memInRange)

/-- The values R601 defines, in the state a run starts from and after the reset input on any state, running or halted, whatever values
`f` gives to what R602 and R604 leave open; and what ERL = 1 implies whatever the unspecified bits are. -/
def Obligations.ResetValues : Prop :=
  let defined (s : State) : Prop :=
    s.pc = 0xBFC00000#32 ∧ s.npc = s.pc + 4 ∧ s.ds = false ∧ s.erl = true ∧ s.bev = true ∧ s.statusBit 20 = false ∧
    s.statusBit 21 = false ∧ s.statusBit 27 = false ∧ s.cp0.wired = 0 ∧ s.cp0.prid = Config.pridValue ∧
    s.cp0.config = Config.configReset ∧ s.fcr0 = Config.fcr0Value ∧ s.readX 0 = 0 ∧ s.stop = false ∧ s.time = 0 ∧ s.queue = []
  defined State.reset ∧ (∀ s f : State, defined (s.hostReset f)) ∧
  ∀ u : State, u.erl = true → u.kernelMode = true ∧ u.interruptPending = false ∧ u.cop0Usable = true

/-- Where COP0 is not usable, an instruction changes no TLB entry, and the COP0 registers only as an exception entry does (R561): the
system state is reachable only through the privileged instructions. -/
def Obligations.UserModeCannotTouchTheSystem : Prop :=
  ∀ (i : Instr) (s t : State), s.cop0Usable = false → exec i s = .next t →
    t.tlb = s.tlb ∧ (t.cp0 = s.cp0 ∨ ∃ e, t = s.exceptionEntry e)
end

