-- ==== Sys2Proof/Laws/Decode.lean ====
section
/-! SUPPORT. What each field of an encoded word is: the extraction of every field from every format; and a word from its bytes. -/

namespace Sys2Proof

section
variable (op : BitVec 6) (a b c d : BitVec 5) (imm : Half) (funct : BitVec 6) (t : BitVec 26)

@[simp] theorem fieldOpcode_encodeI : fieldOpcode (encodeI op a b imm) = op := by
  apply BitVec.eq_of_getLsbD_eq
  intro i hi
  simp only [fieldOpcode, encodeI, BitVec.getLsbD_extractLsb', BitVec.getLsbD_append]
  grind

@[simp] theorem fieldRs_encodeI : fieldRs (encodeI op a b imm) = a := by
  apply BitVec.eq_of_getLsbD_eq
  intro i hi
  simp only [fieldRs, encodeI, BitVec.getLsbD_extractLsb', BitVec.getLsbD_append]
  grind

@[simp] theorem fieldRt_encodeI : fieldRt (encodeI op a b imm) = b := by
  apply BitVec.eq_of_getLsbD_eq
  intro i hi
  simp only [fieldRt, encodeI, BitVec.getLsbD_extractLsb', BitVec.getLsbD_append]
  grind

@[simp] theorem fieldImm_encodeI : fieldImm (encodeI op a b imm) = imm := by
  apply BitVec.eq_of_getLsbD_eq
  intro i hi
  simp only [fieldImm, encodeI, BitVec.getLsbD_extractLsb', BitVec.getLsbD_append]
  grind

@[simp] theorem fieldOpcode_encodeR : fieldOpcode (encodeR op a b c d funct) = op := by
  apply BitVec.eq_of_getLsbD_eq
  intro i hi
  simp only [fieldOpcode, encodeR, BitVec.getLsbD_extractLsb', BitVec.getLsbD_append]
  grind

@[simp] theorem fieldRs_encodeR : fieldRs (encodeR op a b c d funct) = a := by
  apply BitVec.eq_of_getLsbD_eq
  intro i hi
  simp only [fieldRs, encodeR, BitVec.getLsbD_extractLsb', BitVec.getLsbD_append]
  grind

@[simp] theorem fieldRt_encodeR : fieldRt (encodeR op a b c d funct) = b := by
  apply BitVec.eq_of_getLsbD_eq
  intro i hi
  simp only [fieldRt, encodeR, BitVec.getLsbD_extractLsb', BitVec.getLsbD_append]
  grind

@[simp] theorem fieldRd_encodeR : fieldRd (encodeR op a b c d funct) = c := by
  apply BitVec.eq_of_getLsbD_eq
  intro i hi
  simp only [fieldRd, encodeR, BitVec.getLsbD_extractLsb', BitVec.getLsbD_append]
  grind

@[simp] theorem fieldSa_encodeR : fieldSa (encodeR op a b c d funct) = d := by
  apply BitVec.eq_of_getLsbD_eq
  intro i hi
  simp only [fieldSa, encodeR, BitVec.getLsbD_extractLsb', BitVec.getLsbD_append]
  grind

@[simp] theorem fieldFunct_encodeR : fieldFunct (encodeR op a b c d funct) = funct := by
  apply BitVec.eq_of_getLsbD_eq
  intro i hi
  simp only [fieldFunct, encodeR, BitVec.getLsbD_extractLsb', BitVec.getLsbD_append]
  grind

@[simp] theorem fieldOpcode_encodeJ : fieldOpcode (encodeJ op t) = op := by
  apply BitVec.eq_of_getLsbD_eq
  intro i hi
  simp only [fieldOpcode, encodeJ, BitVec.getLsbD_extractLsb', BitVec.getLsbD_append]
  grind

@[simp] theorem fieldTarget_encodeJ : fieldTarget (encodeJ op t) = t := by
  apply BitVec.eq_of_getLsbD_eq
  intro i hi
  simp only [fieldTarget, encodeJ, BitVec.getLsbD_extractLsb', BitVec.getLsbD_append]
  grind

end

/-- Four big-endian bytes make the word again. -/
theorem wordBytes_join (w : Word) :
    w.extractLsb' 24 8 ++ w.extractLsb' 16 8 ++ w.extractLsb' 8 8 ++ w.extractLsb' 0 8 = w := by
  apply BitVec.eq_of_getLsbD_eq
  intro i hi
  simp only [BitVec.getLsbD_extractLsb', BitVec.getLsbD_append]
  grind

/-- Decoding the bytes of a word is decoding the word. -/
theorem decode_wordBytes (w : Word) (rest : List Byte) :
    decode (wordBytes w ++ rest) = (decodeWord w).map (fun i => (i, rest)) := by
  simp only [wordBytes, List.cons_append, List.nil_append, decode, wordBytes_join]
  cases decodeWord w <;> rfl

/-- A shift amount or CACHE operation survives its 5-bit field. -/
theorem toNat_ofNat5 (n : Nat) (h : fits5 n = true) : (BitVec.ofNat 5 n).toNat = n := by
  have : n < 32 := by simpa [fits5] using h
  simp [Nat.mod_eq_of_lt this]

end Sys2Proof
end

