-- ==== Sys2Proof/Laws/Memory.lean ====
section
/-! SUPPORT. The laws of physical memory: a byte read after a write, everything a write leaves alone, and the canonical form. -/

namespace Sys2Proof.Machine

theorem Memory.readByte_insertCell (a : Nat) (v : Byte) (m : Memory) (h : ∀ c ∈ m, c.1 ≠ a) (b : Nat) :
    (Memory.insertCell a v m).readByte b = if b = a then v else m.readByte b := by
  induction m with
  | nil => simp [insertCell, readByte]
  | cons c rest ih =>
    have hc : c.1 ≠ a := h c (by simp)
    have ih := ih (fun d hd => h d (by simp [hd]))
    simp only [insertCell]
    split
    · simp [readByte]
    · simp only [readByte, ih]
      by_cases hb : b = c.1
      · simp [hb, hc]
      · simp [hb]

theorem Memory.readByte_filter (m : Memory) (a b : Nat) :
    Memory.readByte (m.filter (fun c => c.1 != a)) b = if b = a then unlistedByte else m.readByte b := by
  induction m with
  | nil => simp [readByte]
  | cons c rest ih =>
    rw [List.filter_cons]
    by_cases hc : c.1 = a
    · simp only [hc, bne_self_eq_false, Bool.false_eq_true, if_false, ih, readByte]
      by_cases hb : b = a <;> simp [hb]
    · have : (c.1 != a) = true := by simpa using hc
      simp only [this, if_true, readByte, ih]
      by_cases hb : b = c.1
      · simp [hb, hc]
      · simp [hb]

/-- A read after a write, at any address: the whole law of `writeByte`. -/
theorem Memory.readByte_writeByte (m : Memory) (a : Nat) (v : Byte) (b : Nat) :
    (m.writeByte a v).readByte b = if b = a then v else m.readByte b := by
  unfold writeByte
  by_cases hv : v = unlistedByte
  · simp [hv, readByte_filter]
  · simp only [hv, if_false]
    rw [readByte_insertCell _ _ _ (by simp), readByte_filter]
    by_cases hb : b = a <;> simp [hb]

theorem Memory.wf_iff (m : Memory) :
    m.wf = true ↔ m.Pairwise (fun c d => c.1 < d.1) ∧ ∀ c ∈ m, c.2 ≠ unlistedByte := by
  simp [wf]

theorem Memory.mem_insertCell {a : Nat} {v : Byte} {m : Memory} {c : Host.Cell}
    (h : c ∈ Memory.insertCell a v m) : c = (a, v) ∨ c ∈ m := by
  induction m with
  | nil => simpa [insertCell] using h
  | cons d rest ih =>
    simp only [insertCell] at h
    split at h
    · simpa using h
    · rcases List.mem_cons.1 h with h | h
      · exact .inr (by simp [h])
      · rcases ih h with h | h
        · exact .inl h
        · exact .inr (by simp [h])

theorem Memory.pairwise_insertCell (a : Nat) (v : Byte) (m : Memory) (hm : m.Pairwise (fun c d => c.1 < d.1))
    (h : ∀ c ∈ m, c.1 ≠ a) : (Memory.insertCell a v m).Pairwise (fun c d => c.1 < d.1) := by
  induction m with
  | nil => simp [insertCell]
  | cons d rest ih =>
    simp only [insertCell]
    obtain ⟨h1, h2⟩ := List.pairwise_cons.1 hm
    split
    · rename_i hlt
      refine List.pairwise_cons.2 ⟨fun c hc => ?_, hm⟩
      rcases List.mem_cons.1 hc with rfl | hc
      · exact hlt
      · exact lt_trans hlt (h1 c hc)
    · rename_i hlt
      have hd : d.1 ≠ a := h d (by simp)
      refine List.pairwise_cons.2 ⟨fun c hc => ?_, ih h2 (fun c hc => h c (by simp [hc]))⟩
      rcases mem_insertCell hc with rfl | hc
      · simp only; omega
      · exact h1 c hc

/-- A write keeps the canonical form. -/
theorem Memory.wf_writeByte (m : Memory) (a : Nat) (v : Byte) (h : m.wf = true) : (m.writeByte a v).wf = true := by
  obtain ⟨h1, h2⟩ := (wf_iff m).1 h
  have hf : (m.filter (fun c => c.1 != a)).Pairwise (fun c d => c.1 < d.1) := h1.filter _
  have hg : ∀ c ∈ m.filter (fun c => c.1 != a), c.2 ≠ unlistedByte := fun c hc => h2 c (List.mem_filter.1 hc).1
  unfold writeByte
  by_cases hv : v = unlistedByte
  · simp only [hv, if_true]; exact (wf_iff _).2 ⟨hf, hg⟩
  · simp only [hv, if_false]
    refine (wf_iff _).2 ⟨pairwise_insertCell _ _ _ hf (by simp), fun c hc => ?_⟩
    rcases mem_insertCell hc with rfl | hc
    · exact hv
    · exact hg c hc

/-- A write of several bytes keeps the canonical form. -/
theorem Memory.wf_writeWhere (ram : Nat → Bool) (m : Memory) (a : Nat) (v : Dword) (n : Nat) (h : m.wf = true) :
    (m.writeWhere ram a v n).wf = true := by
  induction n generalizing v with
  | zero => exact h
  | succ n ih =>
    unfold writeWhere
    split
    · exact wf_writeByte _ _ _ (ih _)
    · exact ih _

/-- The listed addresses of a write are old ones or the one written. -/
theorem Memory.mem_writeByte {m : Memory} {a : Nat} {v : Byte} {c : Host.Cell} (h : c ∈ m.writeByte a v) :
    c = (a, v) ∨ c ∈ m := by
  unfold writeByte at h
  by_cases hv : v = unlistedByte
  · simp only [hv, if_true] at h; exact .inr (List.mem_filter.1 h).1
  · simp only [hv, if_false] at h
    rcases mem_insertCell h with h | h
    · exact .inl h
    · exact .inr (List.mem_filter.1 h).1

/-- The listed addresses of a write of several bytes. -/
theorem Memory.mem_writeWhere {ram : Nat → Bool} {m : Memory} {a : Nat} {v : Dword} {n : Nat} {c : Host.Cell}
    (h : c ∈ m.writeWhere ram a v n) : (a ≤ c.1 ∧ c.1 < a + n) ∨ c ∈ m := by
  induction n generalizing v with
  | zero => exact .inr h
  | succ n ih =>
    unfold writeWhere at h
    split at h
    · rcases mem_writeByte h with rfl | h
      · exact .inl ⟨by simp, by simp⟩
      · exact (ih h).imp_left fun ⟨h1, h2⟩ => ⟨h1, by omega⟩
    · exact (ih h).imp_left fun ⟨h1, h2⟩ => ⟨h1, by omega⟩

/-- A byte outside the bytes written, or not of `ram`, reads as before. -/
theorem Memory.readByte_writeWhere_same (ram : Nat → Bool) (m : Memory) (a : Nat) (v : Dword) (n b : Nat)
    (h : b < a ∨ a + n ≤ b ∨ ram b = false) : (m.writeWhere ram a v n).readByte b = m.readByte b := by
  induction n generalizing v with
  | zero => rfl
  | succ n ih =>
    unfold writeWhere
    split
    · rename_i hr
      have hb : b ≠ a + n := by
        rintro rfl
        rcases h with h | h | h
        · omega
        · omega
        · rw [hr] at h; cases h
      rw [readByte_writeByte, if_neg hb, ih _ (h.imp_right (Or.imp_left (by omega)))]
    · exact ih _ (h.imp_right (Or.imp_left (by omega)))

/-- The bytes written, the most significant first. -/
theorem Memory.readByte_writeWhere_inside (ram : Nat → Bool) (m : Memory) (a : Nat) (v : Dword) (n k : Nat) (h : k < n)
    (hr : ram (a + k) = true) : (m.writeWhere ram a v n).readByte (a + k) = (v >>> (8 * (n - 1 - k))).setWidth 8 := by
  induction n generalizing v with
  | zero => omega
  | succ n ih =>
    unfold writeWhere
    by_cases hk : k = n
    · subst hk; rw [if_pos hr, readByte_writeByte]; simp
    · have hi := ih (v >>> 8) (by omega)
      rw [← BitVec.shiftRight_add, show 8 + 8 * (n - 1 - k) = 8 * (n + 1 - 1 - k) by omega] at hi
      split
      · rw [readByte_writeByte, if_neg (by omega), hi]
      · exact hi

/-- Bytes that agree on a range assemble to the same value. -/
theorem assembleBytes_congr {f g : Nat → Byte} {n : Nat} (h : ∀ k < n, f k = g k) : assembleBytes f n = assembleBytes g n := by
  induction n with
  | zero => rfl
  | succ n ih => rw [assembleBytes, assembleBytes, ih (fun k hk => h k (by omega)), h n (by omega)]

/-! ### The memory port (R85) -/

/-- `PhysRead` where all bytes are RAM: the bytes of memory. -/
theorem State.physRead_ram (s : State) (pa : Word) (n : Nat) (h : s.allRam pa.toNat n = true) :
    s.physRead pa n = assembleBytes (fun k => s.mem.readByte (pa.toNat + k)) n := by
  refine assembleBytes_congr fun k hk => ?_
  have : s.isRam (pa.toNat + k) = true := by
    simpa using List.all_eq_true.1 h k (List.mem_range.2 hk)
  simp [State.answerByte, this]

/-- A read of RAM changes nothing. -/
theorem State.afterRead_ram (s : State) (pa : Word) (n : Nat) (h : s.allRam pa.toNat n = true) : s.afterRead pa n = s := by
  simp [State.afterRead, State.portAfter, h]

/-- A write to RAM is no transaction with the platform. -/
theorem State.afterWrite_ram (s : State) (pa : Word) (n : Nat) (v : Dword) (h : s.allRam pa.toNat n = true) :
    s.afterWrite pa n v = s := by
  simp [State.afterWrite, State.portAfter, h]

/-- With no exception declared every byte is RAM (log 6). -/
theorem State.allRam_of_notRam_nil (s : State) (h : s.notRam = []) (a n : Nat) : s.allRam a n = true := by
  simp [State.allRam, State.isRam, h]

/-- The port transcript only grows, and not where all bytes are RAM. -/
theorem State.portAfter_cases (s : State) (pa : Word) (n : Nat) (ev : PortEvent) :
    s.portAfter pa n ev = s.port ∨ (s.portAfter pa n ev = ev :: s.port ∧ s.notRam ≠ []) := by
  unfold State.portAfter
  split
  · exact .inl rfl
  · rename_i h
    exact .inr ⟨rfl, fun hn => h (s.allRam_of_notRam_nil hn _ _)⟩

end Sys2Proof.Machine
end

