-- ==== Sys2Proof/Laws/State.lean ====
section
/-! SUPPORT. One lemma per field per update of the state, so that no later proof unfolds a record update. -/

namespace Sys2Proof.Machine

section writeXFields
variable (s : State) (i : RegNum) (v : Dword)
@[simp] theorem State.writeX_hi : (s.writeX i v).hi = s.hi := by unfold State.writeX; split <;> rfl
@[simp] theorem State.writeX_lo : (s.writeX i v).lo = s.lo := by unfold State.writeX; split <;> rfl
@[simp] theorem State.writeX_pc : (s.writeX i v).pc = s.pc := by unfold State.writeX; split <;> rfl
@[simp] theorem State.writeX_npc : (s.writeX i v).npc = s.npc := by unfold State.writeX; split <;> rfl
@[simp] theorem State.writeX_ds : (s.writeX i v).ds = s.ds := by unfold State.writeX; split <;> rfl
@[simp] theorem State.writeX_cp0 : (s.writeX i v).cp0 = s.cp0 := by unfold State.writeX; split <;> rfl
@[simp] theorem State.writeX_fgr : (s.writeX i v).fgr = s.fgr := by unfold State.writeX; split <;> rfl
@[simp] theorem State.writeX_fcr0 : (s.writeX i v).fcr0 = s.fcr0 := by unfold State.writeX; split <;> rfl
@[simp] theorem State.writeX_fcr31 : (s.writeX i v).fcr31 = s.fcr31 := by unfold State.writeX; split <;> rfl
@[simp] theorem State.writeX_llbit : (s.writeX i v).llbit = s.llbit := by unfold State.writeX; split <;> rfl
@[simp] theorem State.writeX_stop : (s.writeX i v).stop = s.stop := by unfold State.writeX; split <;> rfl
@[simp] theorem State.writeX_tlb : (s.writeX i v).tlb = s.tlb := by unfold State.writeX; split <;> rfl
@[simp] theorem State.writeX_time : (s.writeX i v).time = s.time := by unfold State.writeX; split <;> rfl
@[simp] theorem State.writeX_queue : (s.writeX i v).queue = s.queue := by unfold State.writeX; split <;> rfl
@[simp] theorem State.writeX_mem : (s.writeX i v).mem = s.mem := by unfold State.writeX; split <;> rfl
@[simp] theorem State.writeX_notRam : (s.writeX i v).notRam = s.notRam := by unfold State.writeX; split <;> rfl
@[simp] theorem State.writeX_port : (s.writeX i v).port = s.port := by unfold State.writeX; split <;> rfl
@[simp] theorem State.writeX_freeCount : (s.writeX i v).freeCount = s.freeCount := by unfold State.writeX; split <;> rfl
end writeXFields

section writeLoHiFields
variable (s : State) (l h : Dword)
@[simp] theorem State.writeLoHi_x : (s.writeLoHi l h).x = s.x := rfl
@[simp] theorem State.writeLoHi_hi : (s.writeLoHi l h).hi = h := rfl
@[simp] theorem State.writeLoHi_lo : (s.writeLoHi l h).lo = l := rfl
@[simp] theorem State.writeLoHi_pc : (s.writeLoHi l h).pc = s.pc := rfl
@[simp] theorem State.writeLoHi_npc : (s.writeLoHi l h).npc = s.npc := rfl
@[simp] theorem State.writeLoHi_ds : (s.writeLoHi l h).ds = s.ds := rfl
@[simp] theorem State.writeLoHi_cp0 : (s.writeLoHi l h).cp0 = s.cp0 := rfl
@[simp] theorem State.writeLoHi_fgr : (s.writeLoHi l h).fgr = s.fgr := rfl
@[simp] theorem State.writeLoHi_fcr0 : (s.writeLoHi l h).fcr0 = s.fcr0 := rfl
@[simp] theorem State.writeLoHi_fcr31 : (s.writeLoHi l h).fcr31 = s.fcr31 := rfl
@[simp] theorem State.writeLoHi_llbit : (s.writeLoHi l h).llbit = s.llbit := rfl
@[simp] theorem State.writeLoHi_stop : (s.writeLoHi l h).stop = s.stop := rfl
@[simp] theorem State.writeLoHi_tlb : (s.writeLoHi l h).tlb = s.tlb := rfl
@[simp] theorem State.writeLoHi_time : (s.writeLoHi l h).time = s.time := rfl
@[simp] theorem State.writeLoHi_queue : (s.writeLoHi l h).queue = s.queue := rfl
@[simp] theorem State.writeLoHi_mem : (s.writeLoHi l h).mem = s.mem := rfl
@[simp] theorem State.writeLoHi_notRam : (s.writeLoHi l h).notRam = s.notRam := rfl
@[simp] theorem State.writeLoHi_port : (s.writeLoHi l h).port = s.port := rfl
@[simp] theorem State.writeLoHi_freeCount : (s.writeLoHi l h).freeCount = s.freeCount := rfl
end writeLoHiFields

section afterReadFields
variable (s : State) (pa : Word) (n : Nat)
@[simp] theorem State.afterRead_x : (s.afterRead pa n).x = s.x := rfl
@[simp] theorem State.afterRead_hi : (s.afterRead pa n).hi = s.hi := rfl
@[simp] theorem State.afterRead_lo : (s.afterRead pa n).lo = s.lo := rfl
@[simp] theorem State.afterRead_pc : (s.afterRead pa n).pc = s.pc := rfl
@[simp] theorem State.afterRead_npc : (s.afterRead pa n).npc = s.npc := rfl
@[simp] theorem State.afterRead_ds : (s.afterRead pa n).ds = s.ds := rfl
@[simp] theorem State.afterRead_cp0 : (s.afterRead pa n).cp0 = s.cp0 := rfl
@[simp] theorem State.afterRead_fgr : (s.afterRead pa n).fgr = s.fgr := rfl
@[simp] theorem State.afterRead_fcr0 : (s.afterRead pa n).fcr0 = s.fcr0 := rfl
@[simp] theorem State.afterRead_fcr31 : (s.afterRead pa n).fcr31 = s.fcr31 := rfl
@[simp] theorem State.afterRead_llbit : (s.afterRead pa n).llbit = s.llbit := rfl
@[simp] theorem State.afterRead_stop : (s.afterRead pa n).stop = s.stop := rfl
@[simp] theorem State.afterRead_tlb : (s.afterRead pa n).tlb = s.tlb := rfl
@[simp] theorem State.afterRead_time : (s.afterRead pa n).time = s.time := rfl
@[simp] theorem State.afterRead_queue : (s.afterRead pa n).queue = s.queue := rfl
@[simp] theorem State.afterRead_mem : (s.afterRead pa n).mem = s.mem := rfl
@[simp] theorem State.afterRead_notRam : (s.afterRead pa n).notRam = s.notRam := rfl
@[simp] theorem State.afterRead_port : (s.afterRead pa n).port = s.portAfter pa n (.read s.time pa n (s.physRead pa n)) := rfl
@[simp] theorem State.afterRead_freeCount : (s.afterRead pa n).freeCount = s.freeCount := rfl
end afterReadFields

section afterWriteFields
variable (s : State) (pa : Word) (n : Nat) (v : Dword)
@[simp] theorem State.afterWrite_x : (s.afterWrite pa n v).x = s.x := rfl
@[simp] theorem State.afterWrite_hi : (s.afterWrite pa n v).hi = s.hi := rfl
@[simp] theorem State.afterWrite_lo : (s.afterWrite pa n v).lo = s.lo := rfl
@[simp] theorem State.afterWrite_pc : (s.afterWrite pa n v).pc = s.pc := rfl
@[simp] theorem State.afterWrite_npc : (s.afterWrite pa n v).npc = s.npc := rfl
@[simp] theorem State.afterWrite_ds : (s.afterWrite pa n v).ds = s.ds := rfl
@[simp] theorem State.afterWrite_cp0 : (s.afterWrite pa n v).cp0 = s.cp0 := rfl
@[simp] theorem State.afterWrite_fgr : (s.afterWrite pa n v).fgr = s.fgr := rfl
@[simp] theorem State.afterWrite_fcr0 : (s.afterWrite pa n v).fcr0 = s.fcr0 := rfl
@[simp] theorem State.afterWrite_fcr31 : (s.afterWrite pa n v).fcr31 = s.fcr31 := rfl
@[simp] theorem State.afterWrite_llbit : (s.afterWrite pa n v).llbit = s.llbit := rfl
@[simp] theorem State.afterWrite_stop : (s.afterWrite pa n v).stop = s.stop := rfl
@[simp] theorem State.afterWrite_tlb : (s.afterWrite pa n v).tlb = s.tlb := rfl
@[simp] theorem State.afterWrite_time : (s.afterWrite pa n v).time = s.time := rfl
@[simp] theorem State.afterWrite_queue : (s.afterWrite pa n v).queue = s.queue := rfl
@[simp] theorem State.afterWrite_mem : (s.afterWrite pa n v).mem = s.mem := rfl
@[simp] theorem State.afterWrite_notRam : (s.afterWrite pa n v).notRam = s.notRam := rfl
@[simp] theorem State.afterWrite_port : (s.afterWrite pa n v).port = s.portAfter pa n (.write s.time pa n (lowBytes n v)) := rfl
@[simp] theorem State.afterWrite_freeCount : (s.afterWrite pa n v).freeCount = s.freeCount := rfl
end afterWriteFields

section physWriteFields
variable (s : State) (pa : Word) (n : Nat) (v : Dword)
@[simp] theorem State.physWrite_x : (s.physWrite pa n v).x = s.x := rfl
@[simp] theorem State.physWrite_hi : (s.physWrite pa n v).hi = s.hi := rfl
@[simp] theorem State.physWrite_lo : (s.physWrite pa n v).lo = s.lo := rfl
@[simp] theorem State.physWrite_pc : (s.physWrite pa n v).pc = s.pc := rfl
@[simp] theorem State.physWrite_npc : (s.physWrite pa n v).npc = s.npc := rfl
@[simp] theorem State.physWrite_ds : (s.physWrite pa n v).ds = s.ds := rfl
@[simp] theorem State.physWrite_cp0 : (s.physWrite pa n v).cp0 = s.cp0 := rfl
@[simp] theorem State.physWrite_fgr : (s.physWrite pa n v).fgr = s.fgr := rfl
@[simp] theorem State.physWrite_fcr0 : (s.physWrite pa n v).fcr0 = s.fcr0 := rfl
@[simp] theorem State.physWrite_fcr31 : (s.physWrite pa n v).fcr31 = s.fcr31 := rfl
@[simp] theorem State.physWrite_llbit : (s.physWrite pa n v).llbit = s.llbit := rfl
@[simp] theorem State.physWrite_stop : (s.physWrite pa n v).stop = s.stop := rfl
@[simp] theorem State.physWrite_tlb : (s.physWrite pa n v).tlb = s.tlb := rfl
@[simp] theorem State.physWrite_time : (s.physWrite pa n v).time = s.time := rfl
@[simp] theorem State.physWrite_queue : (s.physWrite pa n v).queue = s.queue := rfl
@[simp] theorem State.physWrite_mem : (s.physWrite pa n v).mem = s.mem.writeWhere s.isRam pa.toNat v n := rfl
@[simp] theorem State.physWrite_notRam : (s.physWrite pa n v).notRam = s.notRam := rfl
@[simp] theorem State.physWrite_port : (s.physWrite pa n v).port = (s.afterWrite pa n v).port := rfl
@[simp] theorem State.physWrite_freeCount : (s.physWrite pa n v).freeCount = s.freeCount := rfl
end physWriteFields

section tlbWriteFields
variable (s : State) (i : BitVec 5)
@[simp] theorem State.tlbWrite_x : (s.tlbWrite i).x = s.x := rfl
@[simp] theorem State.tlbWrite_hi : (s.tlbWrite i).hi = s.hi := rfl
@[simp] theorem State.tlbWrite_lo : (s.tlbWrite i).lo = s.lo := rfl
@[simp] theorem State.tlbWrite_pc : (s.tlbWrite i).pc = s.pc := rfl
@[simp] theorem State.tlbWrite_npc : (s.tlbWrite i).npc = s.npc := rfl
@[simp] theorem State.tlbWrite_ds : (s.tlbWrite i).ds = s.ds := rfl
@[simp] theorem State.tlbWrite_cp0 : (s.tlbWrite i).cp0 = s.cp0 := rfl
@[simp] theorem State.tlbWrite_fgr : (s.tlbWrite i).fgr = s.fgr := rfl
@[simp] theorem State.tlbWrite_fcr0 : (s.tlbWrite i).fcr0 = s.fcr0 := rfl
@[simp] theorem State.tlbWrite_fcr31 : (s.tlbWrite i).fcr31 = s.fcr31 := rfl
@[simp] theorem State.tlbWrite_llbit : (s.tlbWrite i).llbit = s.llbit := rfl
@[simp] theorem State.tlbWrite_stop : (s.tlbWrite i).stop = s.stop := rfl
@[simp] theorem State.tlbWrite_time : (s.tlbWrite i).time = s.time := rfl
@[simp] theorem State.tlbWrite_queue : (s.tlbWrite i).queue = s.queue := rfl
@[simp] theorem State.tlbWrite_mem : (s.tlbWrite i).mem = s.mem := rfl
@[simp] theorem State.tlbWrite_notRam : (s.tlbWrite i).notRam = s.notRam := rfl
@[simp] theorem State.tlbWrite_port : (s.tlbWrite i).port = s.port := rfl
@[simp] theorem State.tlbWrite_freeCount : (s.tlbWrite i).freeCount = s.freeCount := rfl
end tlbWriteFields

section writeFgrFields
variable (s : State) (i : RegNum) (v : Dword)
@[simp] theorem State.writeFgr_x : (s.writeFgr i v).x = s.x := rfl
@[simp] theorem State.writeFgr_hi : (s.writeFgr i v).hi = s.hi := rfl
@[simp] theorem State.writeFgr_lo : (s.writeFgr i v).lo = s.lo := rfl
@[simp] theorem State.writeFgr_pc : (s.writeFgr i v).pc = s.pc := rfl
@[simp] theorem State.writeFgr_npc : (s.writeFgr i v).npc = s.npc := rfl
@[simp] theorem State.writeFgr_ds : (s.writeFgr i v).ds = s.ds := rfl
@[simp] theorem State.writeFgr_cp0 : (s.writeFgr i v).cp0 = s.cp0 := rfl
@[simp] theorem State.writeFgr_fcr0 : (s.writeFgr i v).fcr0 = s.fcr0 := rfl
@[simp] theorem State.writeFgr_fcr31 : (s.writeFgr i v).fcr31 = s.fcr31 := rfl
@[simp] theorem State.writeFgr_llbit : (s.writeFgr i v).llbit = s.llbit := rfl
@[simp] theorem State.writeFgr_stop : (s.writeFgr i v).stop = s.stop := rfl
@[simp] theorem State.writeFgr_tlb : (s.writeFgr i v).tlb = s.tlb := rfl
@[simp] theorem State.writeFgr_time : (s.writeFgr i v).time = s.time := rfl
@[simp] theorem State.writeFgr_queue : (s.writeFgr i v).queue = s.queue := rfl
@[simp] theorem State.writeFgr_mem : (s.writeFgr i v).mem = s.mem := rfl
@[simp] theorem State.writeFgr_notRam : (s.writeFgr i v).notRam = s.notRam := rfl
@[simp] theorem State.writeFgr_port : (s.writeFgr i v).port = s.port := rfl
@[simp] theorem State.writeFgr_freeCount : (s.writeFgr i v).freeCount = s.freeCount := rfl
end writeFgrFields

section writeSFields
variable (s : State) (i : RegNum) (v : Word)
@[simp] theorem State.writeS_x : (s.writeS i v).x = s.x := by unfold State.writeS; split <;> rfl
@[simp] theorem State.writeS_hi : (s.writeS i v).hi = s.hi := by unfold State.writeS; split <;> rfl
@[simp] theorem State.writeS_lo : (s.writeS i v).lo = s.lo := by unfold State.writeS; split <;> rfl
@[simp] theorem State.writeS_pc : (s.writeS i v).pc = s.pc := by unfold State.writeS; split <;> rfl
@[simp] theorem State.writeS_npc : (s.writeS i v).npc = s.npc := by unfold State.writeS; split <;> rfl
@[simp] theorem State.writeS_ds : (s.writeS i v).ds = s.ds := by unfold State.writeS; split <;> rfl
@[simp] theorem State.writeS_cp0 : (s.writeS i v).cp0 = s.cp0 := by unfold State.writeS; split <;> rfl
@[simp] theorem State.writeS_fcr0 : (s.writeS i v).fcr0 = s.fcr0 := by unfold State.writeS; split <;> rfl
@[simp] theorem State.writeS_fcr31 : (s.writeS i v).fcr31 = s.fcr31 := by unfold State.writeS; split <;> rfl
@[simp] theorem State.writeS_llbit : (s.writeS i v).llbit = s.llbit := by unfold State.writeS; split <;> rfl
@[simp] theorem State.writeS_stop : (s.writeS i v).stop = s.stop := by unfold State.writeS; split <;> rfl
@[simp] theorem State.writeS_tlb : (s.writeS i v).tlb = s.tlb := by unfold State.writeS; split <;> rfl
@[simp] theorem State.writeS_time : (s.writeS i v).time = s.time := by unfold State.writeS; split <;> rfl
@[simp] theorem State.writeS_queue : (s.writeS i v).queue = s.queue := by unfold State.writeS; split <;> rfl
@[simp] theorem State.writeS_mem : (s.writeS i v).mem = s.mem := by unfold State.writeS; split <;> rfl
@[simp] theorem State.writeS_notRam : (s.writeS i v).notRam = s.notRam := by unfold State.writeS; split <;> rfl
@[simp] theorem State.writeS_port : (s.writeS i v).port = s.port := by unfold State.writeS; split <;> rfl
@[simp] theorem State.writeS_freeCount : (s.writeS i v).freeCount = s.freeCount := by unfold State.writeS; split <;> rfl
end writeSFields

section writeDFields
variable (s : State) (i : RegNum) (v : Dword)
@[simp] theorem State.writeD_x : (s.writeD i v).x = s.x := rfl
@[simp] theorem State.writeD_hi : (s.writeD i v).hi = s.hi := rfl
@[simp] theorem State.writeD_lo : (s.writeD i v).lo = s.lo := rfl
@[simp] theorem State.writeD_pc : (s.writeD i v).pc = s.pc := rfl
@[simp] theorem State.writeD_npc : (s.writeD i v).npc = s.npc := rfl
@[simp] theorem State.writeD_ds : (s.writeD i v).ds = s.ds := rfl
@[simp] theorem State.writeD_cp0 : (s.writeD i v).cp0 = s.cp0 := rfl
@[simp] theorem State.writeD_fcr0 : (s.writeD i v).fcr0 = s.fcr0 := rfl
@[simp] theorem State.writeD_fcr31 : (s.writeD i v).fcr31 = s.fcr31 := rfl
@[simp] theorem State.writeD_llbit : (s.writeD i v).llbit = s.llbit := rfl
@[simp] theorem State.writeD_stop : (s.writeD i v).stop = s.stop := rfl
@[simp] theorem State.writeD_tlb : (s.writeD i v).tlb = s.tlb := rfl
@[simp] theorem State.writeD_time : (s.writeD i v).time = s.time := rfl
@[simp] theorem State.writeD_queue : (s.writeD i v).queue = s.queue := rfl
@[simp] theorem State.writeD_mem : (s.writeD i v).mem = s.mem := rfl
@[simp] theorem State.writeD_notRam : (s.writeD i v).notRam = s.notRam := rfl
@[simp] theorem State.writeD_port : (s.writeD i v).port = s.port := rfl
@[simp] theorem State.writeD_freeCount : (s.writeD i v).freeCount = s.freeCount := rfl
end writeDFields

section reshuffleFields
variable (s : State) (b : Bool)
@[simp] theorem State.reshuffle_x : (s.reshuffle b).x = s.x := rfl
@[simp] theorem State.reshuffle_hi : (s.reshuffle b).hi = s.hi := rfl
@[simp] theorem State.reshuffle_lo : (s.reshuffle b).lo = s.lo := rfl
@[simp] theorem State.reshuffle_pc : (s.reshuffle b).pc = s.pc := rfl
@[simp] theorem State.reshuffle_npc : (s.reshuffle b).npc = s.npc := rfl
@[simp] theorem State.reshuffle_ds : (s.reshuffle b).ds = s.ds := rfl
@[simp] theorem State.reshuffle_cp0 : (s.reshuffle b).cp0 = s.cp0 := rfl
@[simp] theorem State.reshuffle_fcr0 : (s.reshuffle b).fcr0 = s.fcr0 := rfl
@[simp] theorem State.reshuffle_fcr31 : (s.reshuffle b).fcr31 = s.fcr31 := rfl
@[simp] theorem State.reshuffle_llbit : (s.reshuffle b).llbit = s.llbit := rfl
@[simp] theorem State.reshuffle_stop : (s.reshuffle b).stop = s.stop := rfl
@[simp] theorem State.reshuffle_tlb : (s.reshuffle b).tlb = s.tlb := rfl
@[simp] theorem State.reshuffle_time : (s.reshuffle b).time = s.time := rfl
@[simp] theorem State.reshuffle_queue : (s.reshuffle b).queue = s.queue := rfl
@[simp] theorem State.reshuffle_mem : (s.reshuffle b).mem = s.mem := rfl
@[simp] theorem State.reshuffle_notRam : (s.reshuffle b).notRam = s.notRam := rfl
@[simp] theorem State.reshuffle_port : (s.reshuffle b).port = s.port := rfl
end reshuffleFields

section writeConditionFields
variable (s : State) (c : Bool)
@[simp] theorem State.writeCondition_x : (s.writeCondition c).x = s.x := rfl
@[simp] theorem State.writeCondition_hi : (s.writeCondition c).hi = s.hi := rfl
@[simp] theorem State.writeCondition_lo : (s.writeCondition c).lo = s.lo := rfl
@[simp] theorem State.writeCondition_pc : (s.writeCondition c).pc = s.pc := rfl
@[simp] theorem State.writeCondition_npc : (s.writeCondition c).npc = s.npc := rfl
@[simp] theorem State.writeCondition_ds : (s.writeCondition c).ds = s.ds := rfl
@[simp] theorem State.writeCondition_cp0 : (s.writeCondition c).cp0 = s.cp0 := rfl
@[simp] theorem State.writeCondition_fgr : (s.writeCondition c).fgr = s.fgr := rfl
@[simp] theorem State.writeCondition_fcr0 : (s.writeCondition c).fcr0 = s.fcr0 := rfl
@[simp] theorem State.writeCondition_llbit : (s.writeCondition c).llbit = s.llbit := rfl
@[simp] theorem State.writeCondition_stop : (s.writeCondition c).stop = s.stop := rfl
@[simp] theorem State.writeCondition_tlb : (s.writeCondition c).tlb = s.tlb := rfl
@[simp] theorem State.writeCondition_time : (s.writeCondition c).time = s.time := rfl
@[simp] theorem State.writeCondition_queue : (s.writeCondition c).queue = s.queue := rfl
@[simp] theorem State.writeCondition_mem : (s.writeCondition c).mem = s.mem := rfl
@[simp] theorem State.writeCondition_notRam : (s.writeCondition c).notRam = s.notRam := rfl
@[simp] theorem State.writeCondition_port : (s.writeCondition c).port = s.port := rfl
@[simp] theorem State.writeCondition_freeCount : (s.writeCondition c).freeCount = s.freeCount := rfl
end writeConditionFields

section exceptionEntryFields
variable (s : State) (e : Exc)
@[simp] theorem State.exceptionEntry_x : (s.exceptionEntry e).x = s.x := rfl
@[simp] theorem State.exceptionEntry_hi : (s.exceptionEntry e).hi = s.hi := rfl
@[simp] theorem State.exceptionEntry_lo : (s.exceptionEntry e).lo = s.lo := rfl
@[simp] theorem State.exceptionEntry_pc : (s.exceptionEntry e).pc = s.entryVector e := rfl
@[simp] theorem State.exceptionEntry_npc : (s.exceptionEntry e).npc = s.entryVector e + 4 := rfl
@[simp] theorem State.exceptionEntry_ds : (s.exceptionEntry e).ds = false := rfl
@[simp] theorem State.exceptionEntry_cp0 : (s.exceptionEntry e).cp0 = s.entryCop0 e := rfl
@[simp] theorem State.exceptionEntry_fgr : (s.exceptionEntry e).fgr = s.fgr := rfl
@[simp] theorem State.exceptionEntry_fcr0 : (s.exceptionEntry e).fcr0 = s.fcr0 := rfl
@[simp] theorem State.exceptionEntry_fcr31 : (s.exceptionEntry e).fcr31 = s.fcr31 := rfl
@[simp] theorem State.exceptionEntry_llbit : (s.exceptionEntry e).llbit = s.llbit := rfl
@[simp] theorem State.exceptionEntry_stop : (s.exceptionEntry e).stop = s.stop := rfl
@[simp] theorem State.exceptionEntry_tlb : (s.exceptionEntry e).tlb = s.tlb := rfl
@[simp] theorem State.exceptionEntry_time : (s.exceptionEntry e).time = s.time := rfl
@[simp] theorem State.exceptionEntry_queue : (s.exceptionEntry e).queue = s.queue := rfl
@[simp] theorem State.exceptionEntry_mem : (s.exceptionEntry e).mem = s.mem := rfl
@[simp] theorem State.exceptionEntry_notRam : (s.exceptionEntry e).notRam = s.notRam := rfl
@[simp] theorem State.exceptionEntry_port : (s.exceptionEntry e).port = s.port := rfl
@[simp] theorem State.exceptionEntry_freeCount : (s.exceptionEntry e).freeCount = s.freeCount := rfl
end exceptionEntryFields

section exceptionReturnFields
variable (s : State) 
@[simp] theorem State.exceptionReturn_x : s.exceptionReturn.x = s.x := rfl
@[simp] theorem State.exceptionReturn_hi : s.exceptionReturn.hi = s.hi := rfl
@[simp] theorem State.exceptionReturn_lo : s.exceptionReturn.lo = s.lo := rfl
@[simp] theorem State.exceptionReturn_pc : s.exceptionReturn.pc = s.cp0.epc := rfl
@[simp] theorem State.exceptionReturn_npc : s.exceptionReturn.npc = s.cp0.epc + 4 := rfl
@[simp] theorem State.exceptionReturn_ds : s.exceptionReturn.ds = false := rfl
@[simp] theorem State.exceptionReturn_fgr : s.exceptionReturn.fgr = s.fgr := rfl
@[simp] theorem State.exceptionReturn_fcr0 : s.exceptionReturn.fcr0 = s.fcr0 := rfl
@[simp] theorem State.exceptionReturn_fcr31 : s.exceptionReturn.fcr31 = s.fcr31 := rfl
@[simp] theorem State.exceptionReturn_llbit : s.exceptionReturn.llbit = false := rfl
@[simp] theorem State.exceptionReturn_stop : s.exceptionReturn.stop = s.stop := rfl
@[simp] theorem State.exceptionReturn_tlb : s.exceptionReturn.tlb = s.tlb := rfl
@[simp] theorem State.exceptionReturn_time : s.exceptionReturn.time = s.time := rfl
@[simp] theorem State.exceptionReturn_queue : s.exceptionReturn.queue = s.queue := rfl
@[simp] theorem State.exceptionReturn_mem : s.exceptionReturn.mem = s.mem := rfl
@[simp] theorem State.exceptionReturn_notRam : s.exceptionReturn.notRam = s.notRam := rfl
@[simp] theorem State.exceptionReturn_port : s.exceptionReturn.port = s.port := rfl
@[simp] theorem State.exceptionReturn_freeCount : s.exceptionReturn.freeCount = s.freeCount := rfl
end exceptionReturnFields

section advanceTimeFields
variable (s : State) 
@[simp] theorem State.advanceTime_x : s.advanceTime.x = s.x := rfl
@[simp] theorem State.advanceTime_hi : s.advanceTime.hi = s.hi := rfl
@[simp] theorem State.advanceTime_lo : s.advanceTime.lo = s.lo := rfl
@[simp] theorem State.advanceTime_pc : s.advanceTime.pc = s.pc := rfl
@[simp] theorem State.advanceTime_npc : s.advanceTime.npc = s.npc := rfl
@[simp] theorem State.advanceTime_ds : s.advanceTime.ds = s.ds := rfl
@[simp] theorem State.advanceTime_fgr : s.advanceTime.fgr = s.fgr := rfl
@[simp] theorem State.advanceTime_fcr0 : s.advanceTime.fcr0 = s.fcr0 := rfl
@[simp] theorem State.advanceTime_fcr31 : s.advanceTime.fcr31 = s.fcr31 := rfl
@[simp] theorem State.advanceTime_llbit : s.advanceTime.llbit = s.llbit := rfl
@[simp] theorem State.advanceTime_stop : s.advanceTime.stop = s.stop := rfl
@[simp] theorem State.advanceTime_tlb : s.advanceTime.tlb = s.tlb := rfl
@[simp] theorem State.advanceTime_time : s.advanceTime.time = s.time + Config.countPerOp := rfl
@[simp] theorem State.advanceTime_queue : s.advanceTime.queue = s.queue := rfl
@[simp] theorem State.advanceTime_mem : s.advanceTime.mem = s.mem := rfl
@[simp] theorem State.advanceTime_notRam : s.advanceTime.notRam = s.notRam := rfl
@[simp] theorem State.advanceTime_port : s.advanceTime.port = s.port := rfl
@[simp] theorem State.advanceTime_freeCount : s.advanceTime.freeCount = s.freeCount := rfl
end advanceTimeFields

section deliverEventsFields
variable (s : State) 
@[simp] theorem State.deliverEvents_x : s.deliverEvents.x = s.x := rfl
@[simp] theorem State.deliverEvents_hi : s.deliverEvents.hi = s.hi := rfl
@[simp] theorem State.deliverEvents_lo : s.deliverEvents.lo = s.lo := rfl
@[simp] theorem State.deliverEvents_pc : s.deliverEvents.pc = s.pc := rfl
@[simp] theorem State.deliverEvents_npc : s.deliverEvents.npc = s.npc := rfl
@[simp] theorem State.deliverEvents_ds : s.deliverEvents.ds = s.ds := rfl
@[simp] theorem State.deliverEvents_fgr : s.deliverEvents.fgr = s.fgr := rfl
@[simp] theorem State.deliverEvents_fcr0 : s.deliverEvents.fcr0 = s.fcr0 := rfl
@[simp] theorem State.deliverEvents_fcr31 : s.deliverEvents.fcr31 = s.fcr31 := rfl
@[simp] theorem State.deliverEvents_llbit : s.deliverEvents.llbit = s.llbit := rfl
@[simp] theorem State.deliverEvents_stop : s.deliverEvents.stop = s.stop := rfl
@[simp] theorem State.deliverEvents_tlb : s.deliverEvents.tlb = s.tlb := rfl
@[simp] theorem State.deliverEvents_time : s.deliverEvents.time = s.time := rfl
@[simp] theorem State.deliverEvents_mem : s.deliverEvents.mem = s.mem := rfl
@[simp] theorem State.deliverEvents_notRam : s.deliverEvents.notRam = s.notRam := rfl
@[simp] theorem State.deliverEvents_port : s.deliverEvents.port = s.port := rfl
@[simp] theorem State.deliverEvents_freeCount : s.deliverEvents.freeCount = s.freeCount := rfl
end deliverEventsFields

section advanceFields
variable (s : State) 
@[simp] theorem State.advance_x : s.advance.x = s.x := rfl
@[simp] theorem State.advance_hi : s.advance.hi = s.hi := rfl
@[simp] theorem State.advance_lo : s.advance.lo = s.lo := rfl
@[simp] theorem State.advance_pc : s.advance.pc = s.npc := rfl
@[simp] theorem State.advance_npc : s.advance.npc = s.npc + 4 := rfl
@[simp] theorem State.advance_ds : s.advance.ds = false := rfl
@[simp] theorem State.advance_cp0 : s.advance.cp0 = s.cp0 := rfl
@[simp] theorem State.advance_fgr : s.advance.fgr = s.fgr := rfl
@[simp] theorem State.advance_fcr0 : s.advance.fcr0 = s.fcr0 := rfl
@[simp] theorem State.advance_fcr31 : s.advance.fcr31 = s.fcr31 := rfl
@[simp] theorem State.advance_llbit : s.advance.llbit = s.llbit := rfl
@[simp] theorem State.advance_stop : s.advance.stop = s.stop := rfl
@[simp] theorem State.advance_tlb : s.advance.tlb = s.tlb := rfl
@[simp] theorem State.advance_time : s.advance.time = s.time := rfl
@[simp] theorem State.advance_queue : s.advance.queue = s.queue := rfl
@[simp] theorem State.advance_mem : s.advance.mem = s.mem := rfl
@[simp] theorem State.advance_notRam : s.advance.notRam = s.notRam := rfl
@[simp] theorem State.advance_port : s.advance.port = s.port := rfl
@[simp] theorem State.advance_freeCount : s.advance.freeCount = s.freeCount := rfl
end advanceFields

section branchToFields
variable (s : State) (t : Word)
@[simp] theorem State.branchTo_x : (s.branchTo t).x = s.x := rfl
@[simp] theorem State.branchTo_hi : (s.branchTo t).hi = s.hi := rfl
@[simp] theorem State.branchTo_lo : (s.branchTo t).lo = s.lo := rfl
@[simp] theorem State.branchTo_pc : (s.branchTo t).pc = s.npc := rfl
@[simp] theorem State.branchTo_npc : (s.branchTo t).npc = t := rfl
@[simp] theorem State.branchTo_ds : (s.branchTo t).ds = true := rfl
@[simp] theorem State.branchTo_cp0 : (s.branchTo t).cp0 = s.cp0 := rfl
@[simp] theorem State.branchTo_fgr : (s.branchTo t).fgr = s.fgr := rfl
@[simp] theorem State.branchTo_fcr0 : (s.branchTo t).fcr0 = s.fcr0 := rfl
@[simp] theorem State.branchTo_fcr31 : (s.branchTo t).fcr31 = s.fcr31 := rfl
@[simp] theorem State.branchTo_llbit : (s.branchTo t).llbit = s.llbit := rfl
@[simp] theorem State.branchTo_stop : (s.branchTo t).stop = s.stop := rfl
@[simp] theorem State.branchTo_tlb : (s.branchTo t).tlb = s.tlb := rfl
@[simp] theorem State.branchTo_time : (s.branchTo t).time = s.time := rfl
@[simp] theorem State.branchTo_queue : (s.branchTo t).queue = s.queue := rfl
@[simp] theorem State.branchTo_mem : (s.branchTo t).mem = s.mem := rfl
@[simp] theorem State.branchTo_notRam : (s.branchTo t).notRam = s.notRam := rfl
@[simp] theorem State.branchTo_port : (s.branchTo t).port = s.port := rfl
@[simp] theorem State.branchTo_freeCount : (s.branchTo t).freeCount = s.freeCount := rfl
end branchToFields

section noBranchFields
variable (s : State) 
@[simp] theorem State.noBranch_x : s.noBranch.x = s.x := rfl
@[simp] theorem State.noBranch_hi : s.noBranch.hi = s.hi := rfl
@[simp] theorem State.noBranch_lo : s.noBranch.lo = s.lo := rfl
@[simp] theorem State.noBranch_pc : s.noBranch.pc = s.npc := rfl
@[simp] theorem State.noBranch_npc : s.noBranch.npc = s.npc + 4 := rfl
@[simp] theorem State.noBranch_ds : s.noBranch.ds = true := rfl
@[simp] theorem State.noBranch_cp0 : s.noBranch.cp0 = s.cp0 := rfl
@[simp] theorem State.noBranch_fgr : s.noBranch.fgr = s.fgr := rfl
@[simp] theorem State.noBranch_fcr0 : s.noBranch.fcr0 = s.fcr0 := rfl
@[simp] theorem State.noBranch_fcr31 : s.noBranch.fcr31 = s.fcr31 := rfl
@[simp] theorem State.noBranch_llbit : s.noBranch.llbit = s.llbit := rfl
@[simp] theorem State.noBranch_stop : s.noBranch.stop = s.stop := rfl
@[simp] theorem State.noBranch_tlb : s.noBranch.tlb = s.tlb := rfl
@[simp] theorem State.noBranch_time : s.noBranch.time = s.time := rfl
@[simp] theorem State.noBranch_queue : s.noBranch.queue = s.queue := rfl
@[simp] theorem State.noBranch_mem : s.noBranch.mem = s.mem := rfl
@[simp] theorem State.noBranch_notRam : s.noBranch.notRam = s.notRam := rfl
@[simp] theorem State.noBranch_port : s.noBranch.port = s.port := rfl
@[simp] theorem State.noBranch_freeCount : s.noBranch.freeCount = s.freeCount := rfl
end noBranchFields

section nullifyFields
variable (s : State) 
@[simp] theorem State.nullify_x : s.nullify.x = s.x := rfl
@[simp] theorem State.nullify_hi : s.nullify.hi = s.hi := rfl
@[simp] theorem State.nullify_lo : s.nullify.lo = s.lo := rfl
@[simp] theorem State.nullify_pc : s.nullify.pc = s.npc + 4 := rfl
@[simp] theorem State.nullify_npc : s.nullify.npc = s.npc + 8 := rfl
@[simp] theorem State.nullify_ds : s.nullify.ds = false := rfl
@[simp] theorem State.nullify_cp0 : s.nullify.cp0 = s.cp0 := rfl
@[simp] theorem State.nullify_fgr : s.nullify.fgr = s.fgr := rfl
@[simp] theorem State.nullify_fcr0 : s.nullify.fcr0 = s.fcr0 := rfl
@[simp] theorem State.nullify_fcr31 : s.nullify.fcr31 = s.fcr31 := rfl
@[simp] theorem State.nullify_llbit : s.nullify.llbit = s.llbit := rfl
@[simp] theorem State.nullify_stop : s.nullify.stop = s.stop := rfl
@[simp] theorem State.nullify_tlb : s.nullify.tlb = s.tlb := rfl
@[simp] theorem State.nullify_time : s.nullify.time = s.time := rfl
@[simp] theorem State.nullify_queue : s.nullify.queue = s.queue := rfl
@[simp] theorem State.nullify_mem : s.nullify.mem = s.mem := rfl
@[simp] theorem State.nullify_notRam : s.nullify.notRam = s.notRam := rfl
@[simp] theorem State.nullify_port : s.nullify.port = s.port := rfl
@[simp] theorem State.nullify_freeCount : s.nullify.freeCount = s.freeCount := rfl
end nullifyFields

section scheduleFields
variable (s : State) (d : Nat) (set clear : BitVec 5)
@[simp] theorem State.schedule_x : (s.schedule d set clear).x = s.x := rfl
@[simp] theorem State.schedule_hi : (s.schedule d set clear).hi = s.hi := rfl
@[simp] theorem State.schedule_lo : (s.schedule d set clear).lo = s.lo := rfl
@[simp] theorem State.schedule_pc : (s.schedule d set clear).pc = s.pc := rfl
@[simp] theorem State.schedule_npc : (s.schedule d set clear).npc = s.npc := rfl
@[simp] theorem State.schedule_ds : (s.schedule d set clear).ds = s.ds := rfl
@[simp] theorem State.schedule_cp0 : (s.schedule d set clear).cp0 = s.cp0 := rfl
@[simp] theorem State.schedule_fgr : (s.schedule d set clear).fgr = s.fgr := rfl
@[simp] theorem State.schedule_fcr0 : (s.schedule d set clear).fcr0 = s.fcr0 := rfl
@[simp] theorem State.schedule_fcr31 : (s.schedule d set clear).fcr31 = s.fcr31 := rfl
@[simp] theorem State.schedule_llbit : (s.schedule d set clear).llbit = s.llbit := rfl
@[simp] theorem State.schedule_stop : (s.schedule d set clear).stop = s.stop := rfl
@[simp] theorem State.schedule_tlb : (s.schedule d set clear).tlb = s.tlb := rfl
@[simp] theorem State.schedule_time : (s.schedule d set clear).time = s.time := rfl
@[simp] theorem State.schedule_mem : (s.schedule d set clear).mem = s.mem := rfl
@[simp] theorem State.schedule_notRam : (s.schedule d set clear).notRam = s.notRam := rfl
@[simp] theorem State.schedule_port : (s.schedule d set clear).port = s.port := rfl
@[simp] theorem State.schedule_freeCount : (s.schedule d set clear).freeCount = s.freeCount := rfl
end scheduleFields

section hostResetFields
variable (s f : State)
@[simp] theorem State.hostReset_x : (s.hostReset f).x = f.x.set 0 0 := rfl
@[simp] theorem State.hostReset_hi : (s.hostReset f).hi = f.hi := rfl
@[simp] theorem State.hostReset_lo : (s.hostReset f).lo = f.lo := rfl
@[simp] theorem State.hostReset_pc : (s.hostReset f).pc = 0xBFC00000#32 := rfl
@[simp] theorem State.hostReset_npc : (s.hostReset f).npc = 0xBFC00004#32 := rfl
@[simp] theorem State.hostReset_ds : (s.hostReset f).ds = false := rfl
@[simp] theorem State.hostReset_cp0 : (s.hostReset f).cp0 = f.cp0.resetFrom := rfl
@[simp] theorem State.hostReset_fgr : (s.hostReset f).fgr = f.fgr := rfl
@[simp] theorem State.hostReset_fcr0 : (s.hostReset f).fcr0 = Config.fcr0Value := rfl
@[simp] theorem State.hostReset_fcr31 : (s.hostReset f).fcr31 = f.fcr31 := rfl
@[simp] theorem State.hostReset_llbit : (s.hostReset f).llbit = f.llbit := rfl
@[simp] theorem State.hostReset_stop : (s.hostReset f).stop = false := rfl
@[simp] theorem State.hostReset_tlb : (s.hostReset f).tlb = f.tlb := rfl
@[simp] theorem State.hostReset_time : (s.hostReset f).time = 0 := rfl
@[simp] theorem State.hostReset_queue : (s.hostReset f).queue = [] := rfl
@[simp] theorem State.hostReset_mem : (s.hostReset f).mem = s.mem := rfl
@[simp] theorem State.hostReset_notRam : (s.hostReset f).notRam = s.notRam := rfl
@[simp] theorem State.hostReset_port : (s.hostReset f).port = .reset s.time :: s.port := rfl
@[simp] theorem State.hostReset_freeCount : (s.hostReset f).freeCount = s.freeCount := rfl
end hostResetFields

end Sys2Proof.Machine
end

