-- ==== Sys2Proof/Laws/Registers.lean ====
section
/-! SUPPORT. A register read after a register write: the general registers (R21, R22), the floating-point registers and their two
views (R55 to R57), the TLB slots. -/

namespace Sys2Proof.Machine

theorem regnum_toNat_inj {i j : RegNum} (h : j ≠ i) : i.toNat ≠ j.toNat := fun e => h (BitVec.eq_of_toNat_eq e.symm)

/-- Every general register after a write: register 0 discards it. -/
theorem State.readX_writeX (s : State) (i j : RegNum) (v : Dword) :
    (s.writeX i v).readX j = if j = i then (if i = 0 then 0 else v) else s.readX j := by
  unfold State.readX
  by_cases hi : i = 0
  · subst hi; unfold State.writeX; simp only [if_true]; by_cases hj : j = 0 <;> simp only [hj, if_true, if_false]
  · by_cases hj : j = i
    · subst hj; simp only [State.writeX, hi, if_false, if_true]; exact Vector.getElem_set_self _
    · simp only [State.writeX, hi, hj, if_false]
      by_cases h0 : j = 0
      · simp only [h0, if_true]
      · simp only [h0, if_false]
        exact Vector.getElem_set_ne _ _ (regnum_toNat_inj hj)

/-- General registers are read from `x` alone. -/
theorem State.readX_congr {s t : State} (h : t.x = s.x) (i : RegNum) : t.readX i = s.readX i := by
  unfold State.readX; rw [h]

/-- Every floating-point register after a write. -/
theorem State.readFgr_writeFgr (s : State) (i j : RegNum) (v : Dword) :
    (s.writeFgr i v).readFgr j = if j = i then v else s.readFgr j := by
  unfold State.writeFgr State.readFgr
  by_cases hj : j = i
  · subst hj; simp
  · simp only [hj, if_false]
    exact Vector.getElem_set_ne _ _ (regnum_toNat_inj hj)

/-- Floating-point registers are read from `fgr` alone. -/
theorem State.readFgr_congr {s t : State} (h : t.fgr = s.fgr) (i : RegNum) : t.readFgr i = s.readFgr i := by
  unfold State.readFgr; rw [h]

/-- The views are read from `fgr` and Status alone. -/
theorem State.readS_congr {s t : State} (h : t.fgr = s.fgr) (hc : t.cp0 = s.cp0) (i : RegNum) : t.readS i = s.readS i := by
  unfold State.readS State.readSUnder State.fr State.statusBit; rw [hc]; simp only [State.readFgr_congr h]

theorem oddReg_pairBase (i : RegNum) : oddReg (pairBase i) = false := by
  revert i; decide

theorem pairBase_inj {i j : RegNum} (hi : oddReg i = true) (hj : oddReg j = true) (h : pairBase i = pairBase j) :
    i = j := by
  revert i j; decide

theorem low32_append (a b : Word) : low32 (a ++ b) = b := by
  apply BitVec.eq_of_getLsbD_eq; intro i hi
  simp only [BitVec.getLsbD_setWidth, BitVec.getLsbD_append]; grind

theorem high32_append (a b : Word) : (a ++ b).extractLsb' 32 32 = a := by
  apply BitVec.eq_of_getLsbD_eq; intro i hi
  simp only [BitVec.getLsbD_extractLsb', BitVec.getLsbD_append]; grind

/-- A write through the single view leaves Status and so FR alone. -/
@[simp] theorem State.fr_writeS (s : State) (i : RegNum) (v : Word) : (s.writeS i v).fr = s.fr := by
  unfold State.fr State.statusBit; simp

/-- The physical register a single view lies in, and whether it is the high half (R56, R57). -/
theorem State.readS_eq (s : State) (i : RegNum) :
    s.readS i = if (s.fr || !oddReg i) = true then low32 (s.readFgr i) else (s.readFgr (pairBase i)).extractLsb' 32 32 := rfl

theorem State.writeS_low {s : State} {i : RegNum} (h : (s.fr || !oddReg i) = true) (v : Word) :
    s.writeS i v = s.writeFgr i ((s.readFgr i).extractLsb' 32 32 ++ v) := by
  unfold State.writeS; rw [if_pos h]

theorem State.writeS_high {s : State} {i : RegNum} (h : (s.fr || !oddReg i) = false) (v : Word) :
    s.writeS i v = s.writeFgr (pairBase i) (v ++ low32 (s.readFgr (pairBase i))) := by
  unfold State.writeS; rw [if_neg (by rw [h]; decide)]

/-- Every single view after a write through one (R56, R57). -/
theorem State.readS_writeS (s : State) (i j : RegNum) (v : Word) :
    (s.writeS i v).readS j = if j = i then v else s.readS j := by
  rw [State.readS_eq, State.readS_eq, s.fr_writeS i v]
  cases hi : (s.fr || !oddReg i)
  · obtain ⟨hf, ho⟩ : s.fr = false ∧ oddReg i = true := by revert hi; cases s.fr <;> cases oddReg i <;> decide
    rw [State.writeS_high hi]
    cases hj : oddReg j
    · have hne : j ≠ i := by rintro rfl; rw [ho] at hj; cases hj
      simp only [hf, Bool.not_false, Bool.or_true, if_true, hne, if_false, State.readFgr_writeFgr]
      by_cases h : j = pairBase i
      · rw [if_pos h, low32_append, h]
      · rw [if_neg h]
    · simp only [hf, Bool.not_true, Bool.or_self, Bool.false_eq_true, if_false, State.readFgr_writeFgr]
      by_cases h : j = i
      · subst h; rw [if_pos rfl, if_pos rfl, high32_append]
      · rw [if_neg h, if_neg (fun e => h (pairBase_inj hj ho e))]
  · rw [State.writeS_low hi]
    cases hj : (s.fr || !oddReg j)
    · obtain ⟨hf, ho⟩ : s.fr = false ∧ oddReg j = true := by revert hj; cases s.fr <;> cases oddReg j <;> decide
      have hne : j ≠ i := by rintro rfl; rw [hi] at hj; cases hj
      simp only [Bool.false_eq_true, if_false, hne, State.readFgr_writeFgr]
      by_cases h : pairBase j = i
      · rw [if_pos h, high32_append, h]
      · rw [if_neg h]
    · simp only [if_true, State.readFgr_writeFgr]
      by_cases h : j = i
      · subst h; rw [if_pos rfl, if_pos rfl, low32_append]
      · rw [if_neg h, if_neg h]

/-- The physical registers after a write through the single view: the bits the view does not name stay. -/
theorem State.readFgr_writeS (s : State) (i j : RegNum) (v : Word) :
    (s.fr = true → ((s.writeS i v).readFgr j).extractLsb' 32 32 = (s.readFgr j).extractLsb' 32 32) ∧
    (s.fr = false → oddReg j = true → (s.writeS i v).readFgr j = s.readFgr j) := by
  constructor
  · intro hf
    rw [State.writeS_low (by rw [hf]; rfl), State.readFgr_writeFgr]
    by_cases h : j = i
    · rw [if_pos h, high32_append, h]
    · rw [if_neg h]
  · intro hf hj
    cases hi : oddReg i
    · rw [State.writeS_low (by rw [hf, hi]; rfl), State.readFgr_writeFgr, if_neg]
      rintro rfl; rw [hi] at hj; cases hj
    · rw [State.writeS_high (by rw [hf, hi]; rfl), State.readFgr_writeFgr, if_neg]
      rintro rfl; rw [oddReg_pairBase] at hj; cases hj

/-- Every TLB slot after a TLB write (R94). -/
theorem State.readTlb_tlbWrite (s : State) (i j : BitVec 5) :
    (s.tlbWrite i).readTlb j = if j = i then s.cp0.tlbEntry else s.readTlb j := by
  unfold State.tlbWrite State.readTlb
  by_cases hj : j = i
  · subst hj; simp
  · simp only [hj, if_false]
    exact Vector.getElem_set_ne _ _ (regnum_toNat_inj hj)

/-- The registers of a tabulated file. -/
theorem getElem_tabulate32 (f : Nat → Dword) (k : Nat) (h : k < 32) : (tabulate32 f)[k] = f k := by
  simp [tabulate32]

/-- Every floating-point register after a reshuffle (R58). -/
theorem State.readFgr_reshuffle (s : State) (b : Bool) (i : RegNum) :
    (s.reshuffle b).readFgr i = s.reshuffled b i.toNat := by
  unfold State.reshuffle State.readFgr
  exact getElem_tabulate32 _ _ i.isLt

/-! ### What a read through the memory port leaves alone (R85) -/

section AfterRead
variable (s : State) (pa : Word) (n : Nat)
@[simp] theorem State.afterRead_readX (r : RegNum) : (s.afterRead pa n).readX r = s.readX r := rfl
@[simp] theorem State.afterRead_readW (r : RegNum) : (s.afterRead pa n).readW r = s.readW r := rfl
@[simp] theorem State.afterRead_readFgr (r : RegNum) : (s.afterRead pa n).readFgr r = s.readFgr r := rfl
@[simp] theorem State.afterRead_readS (r : RegNum) : (s.afterRead pa n).readS r = s.readS r := rfl
@[simp] theorem State.afterRead_readD (r : RegNum) : (s.afterRead pa n).readD r = s.readD r := rfl
@[simp] theorem State.afterRead_fr : (s.afterRead pa n).fr = s.fr := rfl
@[simp] theorem State.afterRead_cu1 : (s.afterRead pa n).cu1 = s.cu1 := rfl
@[simp] theorem State.afterRead_validD (r : RegNum) : (s.afterRead pa n).validD r = s.validD r := rfl
@[simp] theorem State.afterRead_isRam (a : Nat) : (s.afterRead pa n).isRam a = s.isRam a := rfl
end AfterRead

/-- Which bytes are RAM is read from `notRam` alone. -/
theorem State.isRam_congr {s t : State} (h : t.notRam = s.notRam) (a : Nat) : t.isRam a = s.isRam a := by
  unfold State.isRam; rw [h]

end Sys2Proof.Machine
end

