-- ==== Sys2Proof/Laws/Ops.lean ====
section
/-! SUPPORT. For each shared operation, once, everything it can do: what a meaning that ends in it completes with, and what an
answer of it must have been. Proofs about an instruction cite these and unfold only the instruction's own line. -/

namespace Sys2Proof.Machine

/-! ### The checks -/

@[simp] theorem whenCop0_usable {s : State} (h : s.cop0Usable = true) (k : Result) : whenCop0 s k = k := by
  simp [whenCop0, h]

@[simp] theorem whenCop0_unusable {s : State} (h : s.cop0Usable = false) (k : Result) :
    whenCop0 s k = raise s (.coprocessorUnusable 0) := by
  simp [whenCop0, h]

@[simp] theorem whenCop1_usable {s : State} (h : s.cu1 = true) (k : Result) : whenCop1 s k = k := by
  simp [whenCop1, h]

@[simp] theorem whenCop1_unusable {s : State} (h : s.cu1 = false) (k : Result) :
    whenCop1 s k = raise s (.coprocessorUnusable 1) := by
  simp [whenCop1, h]

@[simp] theorem whenD_valid {s : State} {i : RegNum} (h : s.validD i = true) (k : Result) : whenD s i k = k := by
  simp [whenD, h]

@[simp] theorem whenD_odd {s : State} {i : RegNum} (h : s.validD i = false) (k : Result) :
    whenD s i k = .refused .oddDouble := by
  simp [whenD, h]

@[simp] theorem whenAligned_aligned {s : State} {ea : Word} {n : Nat} (h : alignedTo n ea = true) (dir : Direction)
    (k : Result) : whenAligned s dir ea n k = k := by
  simp [whenAligned, h]

@[simp] theorem whenAligned_misaligned {s : State} {ea : Word} {n : Nat} (h : alignedTo n ea = false) (dir : Direction)
    (k : Result) : whenAligned s dir ea n k = raise s (.addressError dir ea) := by
  simp [whenAligned, h]

@[simp] theorem whenNotDelaySlot_false {s : State} (h : s.ds = false) (k : Result) : whenNotDelaySlot s k = k := by
  simp [whenNotDelaySlot, h]

@[simp] theorem whenNotDelaySlot_true {s : State} (h : s.ds = true) (k : Result) :
    whenNotDelaySlot s k = .refused .branchInDelaySlot := by
  simp [whenNotDelaySlot, h]

/-! ### What a step of each kind answers -/

/-- `finish` answers one state. -/
theorem finish_next {s t : State} : finish s = .next t ↔ t = s.advance := by
  unfold finish; constructor
  · intro h; cases h; rfl
  · rintro rfl; rfl

/-- `raise` answers one state. -/
theorem raise_next {s t : State} {e : Exc} : raise s e = .next t ↔ t = s.exceptionEntry e := by
  unfold raise; constructor
  · intro h; cases h; rfl
  · rintro rfl; rfl

/-- An access goes on with its value, or raises. -/
theorem withAccess_next {α : Type} {s t : State} {a : Access α} {k : α → Result} (h : withAccess s a k = .next t) :
    (∃ v, a = .ok v ∧ k v = .next t) ∨ (∃ e, a = .raise e ∧ t = s.exceptionEntry e) := by
  cases a with
  | ok v => exact .inl ⟨v, rfl, h⟩
  | raise e => exact .inr ⟨e, rfl, raise_next.1 h⟩
  | refuse r => cases h

/-- A COP0 instruction that answers a state was usable and did its work, or raised. -/
theorem whenCop0_next {s t : State} {k : Result} (h : whenCop0 s k = .next t) :
    (s.cop0Usable = true ∧ k = .next t) ∨ (s.cop0Usable = false ∧ t = s.exceptionEntry (.coprocessorUnusable 0)) := by
  cases hu : s.cop0Usable
  · exact .inr ⟨rfl, raise_next.1 (by rwa [whenCop0_unusable hu] at h)⟩
  · exact .inl ⟨rfl, by rwa [whenCop0_usable hu] at h⟩

/-- A COP1 instruction that answers a state was usable and did its work, or raised. -/
theorem whenCop1_next {s t : State} {k : Result} (h : whenCop1 s k = .next t) :
    (s.cu1 = true ∧ k = .next t) ∨ (s.cu1 = false ∧ t = s.exceptionEntry (.coprocessorUnusable 1)) := by
  cases hu : s.cu1
  · exact .inr ⟨rfl, raise_next.1 (by rwa [whenCop1_unusable hu] at h)⟩
  · exact .inl ⟨rfl, by rwa [whenCop1_usable hu] at h⟩

/-- A double-view operand of an instruction that answers a state is valid. -/
theorem whenD_next {s t : State} {i : RegNum} {k : Result} (h : whenD s i k = .next t) :
    s.validD i = true ∧ k = .next t := by
  cases hv : s.validD i
  · rw [whenD_odd hv] at h; cases h
  · exact ⟨rfl, by rwa [whenD_valid hv] at h⟩

/-- An access that answers a state was aligned, or raised AddressError. -/
theorem whenAligned_next {s t : State} {dir : Direction} {ea : Word} {n : Nat} {k : Result}
    (h : whenAligned s dir ea n k = .next t) :
    (alignedTo n ea = true ∧ k = .next t) ∨ (alignedTo n ea = false ∧ t = s.exceptionEntry (.addressError dir ea)) := by
  cases ha : alignedTo n ea
  · exact .inr ⟨rfl, raise_next.1 (by rwa [whenAligned_misaligned ha] at h)⟩
  · exact .inl ⟨rfl, by rwa [whenAligned_aligned ha] at h⟩

/-- A jump, branch or ERET that answers a state is outside a delay slot. -/
theorem whenNotDelaySlot_next {s t : State} {k : Result} (h : whenNotDelaySlot s k = .next t) :
    s.ds = false ∧ k = .next t := by
  cases hv : s.ds
  · exact ⟨rfl, by rwa [whenNotDelaySlot_false hv] at h⟩
  · rw [whenNotDelaySlot_true hv] at h; cases h

/-! ### Translation and memory access -/

/-- Inside the unmapped window translation never faults (R88). -/
theorem State.translate_window {s : State} {va : Word} (h : inWindow va = true) (dir : Direction) :
    s.translate dir va = .ok (va &&& 0x1FFFFFFF#32) := by
  simp [State.translate, h]

/-- What translation answers outside the window (R89, R98). -/
theorem State.translate_mapped {s : State} {va : Word} (h : inWindow va = false) (dir : Direction) :
    s.translate dir va =
      if tlbConsistent s.tlb then
        match s.lut dir (va.extractLsb' 12 20) with
        | none => .raise (.tlbMiss dir va)
        | some base => .ok (base ||| (va &&& 0xFFF#32))
      else .refuse .tlbInconsistent := by
  unfold State.translate; exact if_neg (by rw [h]; decide)

/-- Translation raises nothing but a miss for its own address and direction (R89). -/
theorem State.translate_raise {s : State} {va : Word} {dir : Direction} {e : Exc} (h : s.translate dir va = .raise e) :
    e = .tlbMiss dir va := by
  unfold State.translate at h
  split at h
  · cases h
  · split at h
    · split at h
      · cases h; rfl
      · cases h
    · cases h

theorem State.memRead_ok {s : State} {va pa : Word} (h : s.translate .load va = .ok pa) (n : Nat) :
    s.memRead va n = .ok (s.physRead pa n, s.afterRead pa n) := by
  simp [State.memRead, h]

theorem State.memWrite_ok {s : State} {va pa : Word} (h : s.translate .store va = .ok pa) (n : Nat) (v : Dword) :
    s.memWrite va n v = .ok (s.physWrite pa n v) := by
  simp [State.memWrite, h]

/-- What a memory read gives: the answer of the port at the translated address. -/
theorem State.memRead_inv {s : State} {va : Word} {n : Nat} {r : Dword × State} (h : s.memRead va n = .ok r) :
    ∃ pa, s.translate .load va = .ok pa ∧ r = (s.physRead pa n, s.afterRead pa n) := by
  unfold State.memRead at h
  split at h
  · rename_i pa hp; cases h; exact ⟨pa, hp, rfl⟩
  · cases h
  · cases h

/-- What a memory write gives: the bytes written at the translated address. -/
theorem State.memWrite_inv {s u : State} {va : Word} {n : Nat} {v : Dword} (h : s.memWrite va n v = .ok u) :
    ∃ pa, s.translate .store va = .ok pa ∧ u = s.physWrite pa n v := by
  unfold State.memWrite at h
  split at h
  · rename_i pa hp; cases h; exact ⟨pa, hp, rfl⟩
  · cases h
  · cases h

/-- What a fetch gives: the answer of the port at the translated address, from an aligned one (R86). -/
theorem State.fetch_inv {s : State} {va : Word} {r : Word × State} (h : s.fetch va = .ok r) :
    va.extractLsb' 0 2 = 0 ∧ ∃ pa, s.translate .fetch va = .ok pa ∧ r = (low32 (s.physRead pa 4), s.afterRead pa 4) := by
  unfold State.fetch at h
  split at h
  · rename_i ha
    split at h
    · rename_i pa hp; cases h; exact ⟨ha, pa, hp, rfl⟩
    · cases h
    · cases h
  · cases h

/-- A load that may be made goes on with the answer of the port. -/
theorem loadAny_ok {s : State} {va pa : Word} {n : Nat} (h : s.translate .load va = .ok pa) (k : Dword → State → Result) :
    loadAny s va n k = k (s.physRead pa n) (s.afterRead pa n) := by
  simp [loadAny, State.memRead_ok h, withAccess]

/-- An aligned load that may be made goes on with the answer of the port. -/
theorem loadAt_ok {s : State} {ea pa : Word} {n : Nat} (ha : alignedTo n ea = true) (h : s.translate .load ea = .ok pa)
    (k : Dword → State → Result) : loadAt s ea n k = k (s.physRead pa n) (s.afterRead pa n) := by
  rw [loadAt, whenAligned_aligned ha, loadAny_ok h]

/-- A store that may be made goes on with the bytes written. -/
theorem storeAt_ok {s : State} {ea pa : Word} {n : Nat} {v : Dword} (ha : alignedTo n ea = true)
    (h : s.translate .store ea = .ok pa) (k : State → Result) : storeAt s ea n v k = k (s.physWrite pa n v) := by
  simp [storeAt, ha, State.memWrite_ok h, withAccess]

theorem loadAt_misaligned {s : State} {ea : Word} {n : Nat} (ha : alignedTo n ea = false) (k : Dword → State → Result) :
    loadAt s ea n k = raise s (.addressError .load ea) := by
  simp [loadAt, ha]

theorem storeAt_misaligned {s : State} {ea : Word} {n : Nat} {v : Dword} (ha : alignedTo n ea = false) (k : State → Result) :
    storeAt s ea n v k = raise s (.addressError .store ea) := by
  simp [storeAt, ha]

/-- What a load can answer. -/
theorem loadAny_next {s t : State} {va : Word} {n : Nat} {k : Dword → State → Result} (h : loadAny s va n k = .next t) :
    (∃ pa, s.translate .load va = .ok pa ∧ k (s.physRead pa n) (s.afterRead pa n) = .next t) ∨
      (∃ e, t = s.exceptionEntry e) := by
  rcases withAccess_next h with ⟨v, hv, hk⟩ | ⟨e, -, he⟩
  · obtain ⟨pa, hp, rfl⟩ := State.memRead_inv hv
    exact .inl ⟨pa, hp, hk⟩
  · exact .inr ⟨e, he⟩

/-- What an aligned load can answer. -/
theorem loadAt_next {s t : State} {ea : Word} {n : Nat} {k : Dword → State → Result} (h : loadAt s ea n k = .next t) :
    (∃ pa, s.translate .load ea = .ok pa ∧ k (s.physRead pa n) (s.afterRead pa n) = .next t) ∨
      (∃ e, t = s.exceptionEntry e) := by
  rcases whenAligned_next h with ⟨-, h⟩ | ⟨-, h⟩
  · exact loadAny_next h
  · exact .inr ⟨_, h⟩

/-- What a store can answer. -/
theorem storeAt_next {s t : State} {ea : Word} {n : Nat} {v : Dword} {k : State → Result}
    (h : storeAt s ea n v k = .next t) :
    (alignedTo n ea = true ∧ ∃ pa, s.translate .store ea = .ok pa ∧ k (s.physWrite pa n v) = .next t) ∨
      (∃ e, t = s.exceptionEntry e) := by
  rcases whenAligned_next h with ⟨ha, h⟩ | ⟨-, h⟩
  · rcases withAccess_next h with ⟨u, hu, hv⟩ | ⟨e, -, he⟩
    · obtain ⟨pa, hp, rfl⟩ := State.memWrite_inv hu
      exact .inl ⟨ha, pa, hp, hv⟩
    · exact .inr ⟨e, he⟩
  · exact .inr ⟨_, h⟩

/-! ### What each way of ending completes with -/

/-- A meaning that ends in `writeBack` over a state. -/
theorem writesRegOver_of_writeBack {i : Instr} {s u : State} {rd : RegNum} {v : Dword} (h : exec i s = writeBack u rd v) :
    WritesRegOver i s u rd v := by
  refine ⟨(u.writeX rd v).advance, h, ?_, fun r hr => ?_, ⟨by simp, by simp⟩, ⟨by simp, by simp⟩,
    ⟨fun r => State.readFgr_congr (by simp) r, by simp, by simp⟩, ⟨by simp, by simp, by simp, by simp, by simp, by simp⟩, by simp,
    fun a => by simp, ⟨by simp, by simp, by simp⟩⟩
  · rw [Wrote, State.readX_congr (State.advance_x _), State.readX_writeX, if_pos rfl]
  · rw [State.readX_congr (State.advance_x _), State.readX_writeX, if_neg hr]

/-- A meaning that ends in `writeBack`. -/
theorem writesReg_of_writeBack {i : Instr} {s : State} {rd : RegNum} {v : Dword} (h : exec i s = writeBack s rd v) :
    WritesReg i s rd v := writesRegOver_of_writeBack h

/-- A meaning that loads into a general register. -/
theorem loadsReg_of_writeBack {i : Instr} {s : State} {pa : Word} {n : Nat} {rd : RegNum} {v : Dword}
    (h : exec i s = writeBack (s.afterRead pa n) rd v) : LoadsReg i s pa n rd v := writesRegOver_of_writeBack h

/-- A meaning that ends in `finish` with nothing written. -/
theorem doesNothing_of_finish {i : Instr} {s : State} (h : exec i s = finish s) : DoesNothing i s :=
  ⟨s.advance, h, fun r => State.readX_congr (by simp) r, ⟨by simp, by simp⟩, ⟨by simp, by simp⟩,
    ⟨fun r => State.readFgr_congr (by simp) r, by simp, by simp⟩, ⟨by simp, by simp, by simp, by simp, by simp, by simp⟩, by simp,
    fun a => by simp, ⟨by simp, by simp, by simp⟩⟩

/-- A meaning that writes `lo` and `hi`. -/
theorem writesLoHi_of_finish {i : Instr} {s : State} {l h' : Dword} (h : exec i s = finish (s.writeLoHi l h')) :
    WritesLoHi i s l h' :=
  ⟨_, h, by simp, by simp, fun r => State.readX_congr (by simp) r, ⟨by simp, by simp⟩,
    ⟨fun r => State.readFgr_congr (by simp) r, by simp, by simp⟩, ⟨by simp, by simp, by simp, by simp, by simp, by simp⟩, by simp,
    fun a => by simp, ⟨by simp, by simp, by simp⟩⟩

/-- Of the bytes a write names, the RAM holds them and the rest reads as before. -/
theorem State.holdsBytes_physWrite (s : State) (pa : Word) (n : Nat) (v : Dword) :
    HoldsBytes s (s.physWrite pa n v) pa.toNat n v := by
  intro k hk
  split
  · rename_i hr; exact Memory.readByte_writeWhere_inside s.isRam s.mem pa.toNat v n k hk hr
  · rename_i hr; exact Memory.readByte_writeWhere_same s.isRam s.mem pa.toNat v n _ (.inr (.inr (by simpa using hr)))

/-- A write leaves every other byte. -/
theorem State.sameMemoryOutside_physWrite (s : State) (pa : Word) (n : Nat) (v : Dword) :
    SameMemoryOutside s (s.physWrite pa n v) pa.toNat n :=
  fun b hb => Memory.readByte_writeWhere_same s.isRam s.mem pa.toNat v n b (hb.imp_right .inl)

/-- A meaning that stores and completes. -/
theorem stores_of_finish {i : Instr} {s : State} {pa : Word} {n : Nat} {v : Dword}
    (h : exec i s = finish (s.physWrite pa n v)) : Stores i s pa n v :=
  ⟨_, h, s.holdsBytes_physWrite pa n v, s.sameMemoryOutside_physWrite pa n v,
    ⟨fun r => State.readX_congr (by simp) r, ⟨by simp, by simp⟩, ⟨by simp, by simp⟩,
      ⟨fun r => State.readFgr_congr (by simp) r, by simp, by simp⟩, ⟨by simp, by simp, by simp, by simp, by simp, by simp⟩, by simp⟩,
    ⟨by simp, by simp, by simp⟩⟩

/-- A meaning that writes a single view over a state. -/
theorem writesSOver_of_finish {i : Instr} {s₀ s : State} {fd : RegNum} {v : Word}
    (h : exec i s₀ = finish (s.writeS fd v)) : WritesSOver i s₀ s fd v := by
  have hS : ∀ r, (s.writeS fd v).advance.readS r = (s.writeS fd v).readS r :=
    fun r => State.readS_congr (by simp) (by simp) r
  have hF : ∀ r, (s.writeS fd v).advance.readFgr r = (s.writeS fd v).readFgr r := fun r => State.readFgr_congr (by simp) r
  refine ⟨_, h, ?_, fun r hr => ?_, fun hf r => ?_, fun hf r hr => ?_, by simp, by simp,
    fun r => State.readX_congr (by simp) r, ⟨by simp, by simp⟩, ⟨by simp, by simp⟩, ⟨by simp, by simp, by simp, by simp, by simp, by simp⟩,
    by simp, fun a => by simp, ⟨by simp, by simp, by simp⟩⟩
  · rw [hS, State.readS_writeS, if_pos rfl]
  · rw [hS, State.readS_writeS, if_neg hr]
  · rw [hF]; exact (State.readFgr_writeS s fd r v).1 hf
  · rw [hF]; exact (State.readFgr_writeS s fd r v).2 hf hr

/-- A meaning that writes a single view. -/
theorem writesS_of_finish {i : Instr} {s : State} {fd : RegNum} {v : Word} (h : exec i s = finish (s.writeS fd v)) :
    WritesS i s fd v := writesSOver_of_finish h

/-- A meaning that writes a double view over a state. -/
theorem writesDOver_of_finish {i : Instr} {s₀ s : State} {fd : RegNum} {v : Dword}
    (h : exec i s₀ = finish (s.writeD fd v)) : WritesDOver i s₀ s fd v := by
  have hF : ∀ r, (s.writeD fd v).advance.readFgr r = (s.writeFgr fd v).readFgr r :=
    fun r => State.readFgr_congr rfl r
  refine ⟨_, h, ?_, fun r hr => ?_, by simp, by simp,
    fun r => State.readX_congr (by simp) r, ⟨by simp, by simp⟩, ⟨by simp, by simp⟩, ⟨by simp, by simp, by simp, by simp, by simp, by simp⟩,
    by simp, fun a => by simp, ⟨by simp, by simp, by simp⟩⟩
  · rw [State.readD, hF, State.readFgr_writeFgr, if_pos rfl]
  · rw [hF, State.readFgr_writeFgr, if_neg hr]

/-- A meaning that writes a double view. -/
theorem writesD_of_finish {i : Instr} {s : State} {fd : RegNum} {v : Dword} (h : exec i s = finish (s.writeD fd v)) :
    WritesD i s fd v := writesDOver_of_finish h

/-- The condition bit after it is written, and every other bit of fcr31. -/
theorem State.writeCondition_bits (s : State) (c : Bool) :
    (s.writeCondition c).condition = c ∧
      ∀ k, k ≠ 23 → (s.writeCondition c).fcr31.getLsbD k = s.fcr31.getLsbD k := by
  constructor
  · cases c <;> simp [State.writeCondition, State.condition, replaceBits]
  · intro k hk
    by_cases hk32 : k < 32
    · have hm : ∀ j < 32, j ≠ 23 → BitVec.getLsbD 0x00800000#32 j = false := by decide
      have hm' : ∀ j < 32, j ≠ 23 → BitVec.getLsbD (~~~0x00800000#32) j = true := by decide
      cases c <;> simp only [State.writeCondition, replaceBits, BitVec.getLsbD_or, BitVec.getLsbD_and, hm k hk32 hk,
        hm' k hk32 hk, Bool.and_false, Bool.and_true, Bool.false_or]
    · simp [BitVec.getLsbD_of_ge _ _ (Nat.le_of_not_lt hk32)]

/-- A meaning that writes the condition bit. -/
theorem writesCondition_of_finish {i : Instr} {s : State} {c : Bool} (h : exec i s = finish (s.writeCondition c)) :
    WritesCondition i s c :=
  ⟨_, h, by
      have := (State.writeCondition_bits s c).1
      unfold State.condition at this ⊢; simpa only [State.advance_fcr31] using this,
    fun k hk => by
      simpa only [State.advance_fcr31] using (State.writeCondition_bits s c).2 k hk,
    fun r => State.readFgr_congr (by simp) r, by simp, fun r => State.readX_congr (by simp) r, ⟨by simp, by simp⟩,
    ⟨by simp, by simp⟩, ⟨by simp, by simp, by simp, by simp, by simp, by simp⟩, by simp, fun a => by simp, ⟨by simp, by simp, by simp⟩⟩

/-- A meaning that writes COP0 registers alone. -/
theorem writesCop0_of_finish {i : Instr} {s : State} {c : Cop0} (h : exec i s = finish { s with cp0 := c }) :
    WritesCop0 i s c :=
  ⟨_, h, rfl, rfl, fun r => State.readX_congr rfl r, ⟨rfl, rfl⟩, ⟨fun r => State.readFgr_congr rfl r, rfl, rfl⟩,
    ⟨rfl, rfl, rfl, rfl, rfl, rfl⟩, rfl, fun _ => rfl, ⟨rfl, rfl, rfl⟩⟩

/-- A meaning that writes a TLB slot. -/
theorem writesTlb_of_finish {i : Instr} {s : State} {k : BitVec 5} (h : exec i s = finish (s.tlbWrite k)) :
    WritesTlb i s k s.cp0.tlbEntry := by
  have hT : ∀ j, (s.tlbWrite k).advance.readTlb j = (s.tlbWrite k).readTlb j := fun j => rfl
  refine ⟨_, h, ?_, fun j hj => ?_, by simp, fun r => State.readX_congr (by simp) r, ⟨by simp, by simp⟩,
    ⟨fun r => State.readFgr_congr (by simp) r, by simp, by simp⟩, ⟨by simp, by simp, by simp, by simp, by simp, by simp⟩, by simp,
    fun a => by simp, ⟨by simp, by simp, by simp⟩⟩
  · rw [hT, State.readTlb_tlbWrite, if_pos rfl]
  · rw [hT, State.readTlb_tlbWrite, if_neg hj]

/-- A meaning that transfers control without a link. -/
theorem transfers_of_next {i : Instr} {s t : State} (h : exec i s = .next t)
    (ht : t = { s with pc := t.pc, npc := t.npc, ds := t.ds }) : Transfers i s t.pc t.npc t.ds := by
  refine ⟨t, h, rfl, rfl, rfl, fun r => State.readX_congr (by rw [ht]) r, ⟨by rw [ht], by rw [ht]⟩,
    ⟨by rw [ht], by rw [ht]⟩, ⟨fun r => State.readFgr_congr (by rw [ht]) r, by rw [ht], by rw [ht]⟩,
    ⟨by rw [ht], by rw [ht], by rw [ht], by rw [ht], by rw [ht], by rw [ht]⟩, by rw [ht], fun a => by rw [ht]⟩

/-- A meaning that transfers control and links. -/
theorem transfersLinking_of_next {i : Instr} {s t : State} {rd : RegNum} {v : Dword} (h : exec i s = .next t)
    (ht : t = { s.writeX rd v with pc := t.pc, npc := t.npc, ds := t.ds }) :
    TransfersLinking i s rd v t.pc t.npc t.ds := by
  have hx : t.x = (s.writeX rd v).x := by rw [ht]
  refine ⟨t, h, rfl, rfl, rfl, ?_, fun r hr => ?_, ⟨by rw [ht]; simp, by rw [ht]; simp⟩,
    ⟨by rw [ht]; simp, by rw [ht]; simp⟩,
    ⟨fun r => State.readFgr_congr (by rw [ht]; simp) r, by rw [ht]; simp, by rw [ht]; simp⟩,
    ⟨by rw [ht]; simp, by rw [ht]; simp, by rw [ht]; simp, by rw [ht]; simp, by rw [ht]; simp, by rw [ht]; simp⟩, by rw [ht]; simp,
    fun a => by rw [ht]; simp⟩
  · rw [Wrote, State.readX_congr hx, State.readX_writeX, if_pos rfl]
  · rw [State.readX_congr hx, State.readX_writeX, if_neg hr]

/-- What exception entry leaves alone (R542). -/
theorem sameButEntry_exceptionEntry (s : State) (e : Exc) : SameButEntry s (s.exceptionEntry e) :=
  ⟨fun r => State.readX_congr rfl r, ⟨rfl, rfl⟩, ⟨fun r => State.readFgr_congr rfl r, rfl, rfl⟩, fun _ => rfl, rfl, rfl,
    ⟨rfl, rfl, rfl, rfl, rfl, rfl⟩⟩

/-! ### The reset input (R600) -/

/-- From the machine right after reset, the reset input with the same values for what R602 leaves open gives it back, but for the
transcript's note of it (logs 21, 31). -/
theorem State.hostReset_reset : State.reset.hostReset State.reset = { State.reset with port := [.reset 0] } := by
  have h : resetStatus 0x00400004#32 = 0x00400004#32 := by decide
  simp only [State.hostReset, State.reset, Cop0.resetFrom, Cop0.reset, h]
  rfl

end Sys2Proof.Machine
end

