-- ==== Sys2Proof/Laws/Endings.lean ====
section
/-! SUPPORT. For each shared shape of a meaning, once, every state it can answer. A proof about all instructions takes one of these
per constructor and never unfolds a meaning further than its own line. -/

namespace Sys2Proof.Machine

variable {s t : State}

theorem writeBack_next {rd : RegNum} {v : Dword} (h : writeBack s rd v = .next t) : t = (s.writeX rd v).advance :=
  finish_next.1 h

theorem writeOrOverflow_next {rd : RegNum} {v : Option Dword} (h : writeOrOverflow s rd v = .next t) :
    (∃ r, v = some r ∧ t = (s.writeX rd r).advance) ∨ t = s.exceptionEntry .integerOverflow := by
  cases v with
  | some r => exact .inl ⟨r, rfl, writeBack_next h⟩
  | none => exact .inr (raise_next.1 h)

theorem trapIf_next {c : Bool} (h : trapIf s c = .next t) : t = s.advance ∨ t = s.exceptionEntry .trap := by
  cases c
  · exact .inl (finish_next.1 h)
  · exact .inr (raise_next.1 h)

theorem branchIf_next {u : State} {c : Bool} {a : Word} (h : branchIf u c a = .next t) : t = u.branchTo a ∨ t = u.noBranch := by
  cases c
  · cases h; exact .inr rfl
  · cases h; exact .inl rfl

theorem branchLikelyIf_next {u : State} {c : Bool} {a : Word} (h : branchLikelyIf u c a = .next t) :
    t = u.branchTo a ∨ t = u.nullify := by
  cases c
  · cases h; exact .inr rfl
  · cases h; exact .inl rfl

theorem storeAny_next {va : Word} {n : Nat} {v : Dword} (h : storeAny s va n v = .next t) :
    (∃ pa, s.translate .store va = .ok pa ∧ t = (s.physWrite pa n v).advance) ∨ ∃ e, t = s.exceptionEntry e := by
  rcases withAccess_next h with ⟨u, hu, hf⟩ | ⟨e, -, he⟩
  · obtain ⟨pa, hp, rfl⟩ := State.memWrite_inv hu
    exact .inl ⟨pa, hp, finish_next.1 hf⟩
  · exact .inr ⟨e, he⟩

theorem storeConditional_next {rt : RegNum} {ea : Word} {n : Nat} (h : storeConditional s rt ea n = .next t) :
    (∃ pa, s.llbit = true ∧ alignedTo n ea = true ∧ s.translate .store ea = .ok pa ∧
      t = ({ (s.physWrite pa n (s.readX rt)).writeX rt 1 with llbit := false } : State).advance) ∨
    (s.llbit = false ∧ t = (s.writeX rt 0).advance) ∨ ∃ e, t = s.exceptionEntry e := by
  rcases whenAligned_next h with ⟨ha, h⟩ | ⟨-, h⟩
  · split at h
    · rename_i hl
      rcases withAccess_next h with ⟨u, hu, hf⟩ | ⟨e, -, he⟩
      · obtain ⟨pa, hp, rfl⟩ := State.memWrite_inv hu
        exact .inl ⟨pa, hl, ha, hp, finish_next.1 hf⟩
      · exact .inr (.inr ⟨e, he⟩)
    · rename_i hl
      exact .inr (.inl ⟨by simpa using hl, writeBack_next h⟩)
  · exact .inr (.inr ⟨_, h⟩)

theorem binaryS_next {fs ft fd : RegNum} {op : RoundMode → Word → Word → Word} (h : binaryS s fs ft fd op = .next t) :
    (∃ v, t = (s.writeS fd v).advance) ∨ ∃ e, t = s.exceptionEntry e := by
  rcases whenCop1_next h with ⟨-, h⟩ | ⟨-, h⟩
  · exact .inl ⟨_, finish_next.1 h⟩
  · exact .inr ⟨_, h⟩

theorem binaryD_next {fs ft fd : RegNum} {op : RoundMode → Dword → Dword → Dword} (h : binaryD s fs ft fd op = .next t) :
    (∃ v, t = (s.writeD fd v).advance) ∨ ∃ e, t = s.exceptionEntry e := by
  rcases whenCop1_next h with ⟨-, h⟩ | ⟨-, h⟩
  · exact .inl ⟨_, finish_next.1 (whenD_next (whenD_next (whenD_next h).2).2).2⟩
  · exact .inr ⟨_, h⟩

theorem unaryS_next {fs fd : RegNum} {op : Word → Word} (h : unaryS s fs fd op = .next t) :
    (∃ v, t = (s.writeS fd v).advance) ∨ ∃ e, t = s.exceptionEntry e := by
  rcases whenCop1_next h with ⟨-, h⟩ | ⟨-, h⟩
  · exact .inl ⟨_, finish_next.1 h⟩
  · exact .inr ⟨_, h⟩

theorem unaryD_next {fs fd : RegNum} {op : Dword → Dword} (h : unaryD s fs fd op = .next t) :
    (∃ v, t = (s.writeD fd v).advance) ∨ ∃ e, t = s.exceptionEntry e := by
  rcases whenCop1_next h with ⟨-, h⟩ | ⟨-, h⟩
  · exact .inl ⟨_, finish_next.1 (whenD_next (whenD_next h).2).2⟩
  · exact .inr ⟨_, h⟩

theorem convertStoS_next {fs fd : RegNum} {op : Word → Word} (h : convertStoS s fs fd op = .next t) :
    (∃ v, t = (s.writeS fd v).advance) ∨ ∃ e, t = s.exceptionEntry e := by
  rcases whenCop1_next h with ⟨-, h⟩ | ⟨-, h⟩
  · exact .inl ⟨_, finish_next.1 h⟩
  · exact .inr ⟨_, h⟩

theorem convertDtoS_next {fs fd : RegNum} {op : Dword → Word} (h : convertDtoS s fs fd op = .next t) :
    (∃ v, t = (s.writeS fd v).advance) ∨ ∃ e, t = s.exceptionEntry e := by
  rcases whenCop1_next h with ⟨-, h⟩ | ⟨-, h⟩
  · exact .inl ⟨_, finish_next.1 (whenD_next h).2⟩
  · exact .inr ⟨_, h⟩

theorem convertStoD_next {fs fd : RegNum} {op : Word → Dword} (h : convertStoD s fs fd op = .next t) :
    (∃ v, t = (s.writeD fd v).advance) ∨ ∃ e, t = s.exceptionEntry e := by
  rcases whenCop1_next h with ⟨-, h⟩ | ⟨-, h⟩
  · exact .inl ⟨_, finish_next.1 (whenD_next h).2⟩
  · exact .inr ⟨_, h⟩

theorem convertDtoD_next {fs fd : RegNum} {op : Dword → Dword} (h : convertDtoD s fs fd op = .next t) :
    (∃ v, t = (s.writeD fd v).advance) ∨ ∃ e, t = s.exceptionEntry e := by
  rcases whenCop1_next h with ⟨-, h⟩ | ⟨-, h⟩
  · exact .inl ⟨_, finish_next.1 (whenD_next (whenD_next h).2).2⟩
  · exact .inr ⟨_, h⟩

theorem compareWith_next {cond : BitVec 4} {r : Relation} (h : compareWith s cond r = .next t) :
    ∃ c, t = (s.writeCondition c).advance := by
  unfold compareWith at h
  split at h
  · cases h
  · exact ⟨_, finish_next.1 h⟩

theorem compareS_next {cond : BitVec 4} {fs ft : RegNum} (h : compareS s cond fs ft = .next t) :
    (∃ c, t = (s.writeCondition c).advance) ∨ ∃ e, t = s.exceptionEntry e := by
  rcases whenCop1_next h with ⟨-, h⟩ | ⟨-, h⟩
  · exact .inl (compareWith_next h)
  · exact .inr ⟨_, h⟩

theorem compareD_next {cond : BitVec 4} {fs ft : RegNum} (h : compareD s cond fs ft = .next t) :
    (∃ c, t = (s.writeCondition c).advance) ∨ ∃ e, t = s.exceptionEntry e := by
  rcases whenCop1_next h with ⟨-, h⟩ | ⟨-, h⟩
  · exact .inl (compareWith_next (whenD_next (whenD_next h).2).2)
  · exact .inr ⟨_, h⟩

/-- What MTC0 can answer once COP0 is usable: nothing written, COP0 registers written, or Status written. -/
theorem writeCop0_next {rd : RegNum} {v : Word} (h : writeCop0 s rd v = .next t) :
    t = s.advance ∨ (∃ c, t = ({ s with cp0 := c } : State).advance) ∨ (rd = 12 ∧ t = (writeStatus s v).advance) := by
  unfold writeCop0 at h
  split at h
  case h_1 =>
    unfold writeIndex at h
    split at h
    · cases h
    · exact .inr (.inl ⟨_, finish_next.1 h⟩)
  case h_12 hrd => exact .inr (.inr ⟨BitVec.eq_of_toNat_eq hrd, finish_next.1 h⟩)
  case h_13 =>
    unfold writeCause at h
    split at h
    · exact .inr (.inl ⟨_, finish_next.1 h⟩)
    · cases h
  all_goals first
    | exact .inl (finish_next.1 h)
    | exact .inr (.inl ⟨_, finish_next.1 h⟩)
    | cases h

end Sys2Proof.Machine
end

