-- ==== Sys2Proof/Laws/Effects.lean ====
section
/-! SUPPORT. Once, over all instructions, every state `exec` can answer: a case analysis on it replaces unfolding 205 meanings in
each statement about the whole machine. -/

namespace Sys2Proof.Machine

/-- LL and LLD. -/
def isLoadLinked : Instr → Bool
  | .ll _ _ _ | .lld _ _ _ => true
  | _ => false

/-- SC and SCD. -/
def isStoreConditional : Instr → Bool
  | .sc _ _ _ | .scd _ _ _ => true
  | _ => false

/-- The ten instructions that write `hi` or `lo` (R250). -/
def writesHiLo : Instr → Bool
  | .mult _ _ | .multu _ _ | .div _ _ | .divu _ _ | .dmult _ _ | .dmultu _ _ | .ddiv _ _ | .ddivu _ _ | .mthi _ | .mtlo _ => true
  | _ => false

/-- The thirty-two compares, by the function field of their words (R454). -/
def isCompare : Instr → Bool
  | .cFS _ _ | .cUnS _ _ | .cEqS _ _ | .cUeqS _ _ | .cOltS _ _ | .cUltS _ _ | .cOleS _ _ | .cUleS _ _
  | .cSfS _ _ | .cNgleS _ _ | .cSeqS _ _ | .cNglS _ _ | .cLtS _ _ | .cNgeS _ _ | .cLeS _ _ | .cNgtS _ _
  | .cFD _ _ | .cUnD _ _ | .cEqD _ _ | .cUeqD _ _ | .cOltD _ _ | .cUltD _ _ | .cOleD _ _ | .cUleD _ _
  | .cSfD _ _ | .cNgleD _ _ | .cSeqD _ _ | .cNglD _ _ | .cLtD _ _ | .cNgeD _ _ | .cLeD _ _ | .cNgtD _ _ => true
  | _ => false

/-- MTC0, TLBR and TLBP. -/
def writesCop0Cells : Instr → Bool
  | .mtc0 _ _ | .tlbr | .tlbp => true
  | _ => false

/-- TLBWI and TLBWR. -/
def writesTlbSlot : Instr → Bool
  | .tlbwi | .tlbwr => true
  | _ => false

/-- The states instruction `i` can answer from `s`. -/
inductive Effect (i : Instr) (s : State) : State → Prop where
  | entry (e : Exc) : Effect i s (s.exceptionEntry e)
  | nothing : Effect i s s.advance
  | reg (rd : RegNum) (v : Dword) : Effect i s (s.writeX rd v).advance
  | freeRead (rd : RegNum) (v : Dword) : Effect i s ({ s.writeX rd v with freeCount := s.freeCount + 1 } : State).advance
  | load (va pa : Word) (n : Nat) (rd : RegNum) (v : Dword) (hp : s.translate .load va = .ok pa) :
      Effect i s ((s.afterRead pa n).writeX rd v).advance
  | loadS (va pa : Word) (n : Nat) (fd : RegNum) (v : Word) (hp : s.translate .load va = .ok pa) :
      Effect i s ((s.afterRead pa n).writeS fd v).advance
  | loadD (va pa : Word) (n : Nat) (fd : RegNum) (v : Dword) (hp : s.translate .load va = .ok pa) :
      Effect i s ((s.afterRead pa n).writeD fd v).advance
  | link (va pa : Word) (n : Nat) (rd : RegNum) (v : Dword) (hi : isLoadLinked i = true) (hp : s.translate .load va = .ok pa) :
      Effect i s ({ (s.afterRead pa n).writeX rd v with llbit := true } : State).advance
  | store (va pa : Word) (n : Nat) (v : Dword) (hp : s.translate .store va = .ok pa)
      (hn : va.toNat % 8 + n ≤ 8) : Effect i s (s.physWrite pa n v).advance
  | storeCond (va pa : Word) (rt : RegNum) (n : Nat) (hi : isStoreConditional i = true)
      (hp : s.translate .store va = .ok pa) (hn : va.toNat % 8 + n ≤ 8) :
      Effect i s ({ (s.physWrite pa n (s.readX rt)).writeX rt 1 with llbit := false } : State).advance
  | hiLo (l h : Dword) (hi : writesHiLo i = true) : Effect i s (s.writeLoHi l h).advance
  | fpS (fd : RegNum) (v : Word) : Effect i s (s.writeS fd v).advance
  | fpD (fd : RegNum) (v : Dword) : Effect i s (s.writeD fd v).advance
  | condition (c : Bool) (hi : isCompare i = true) : Effect i s (s.writeCondition c).advance
  | control (v : Word) (hi : ∃ rt, i = .ctc1 rt 31) : Effect i s ({ s with fcr31 := v } : State).advance
  | jump (pc npc : Word) (ds : Bool) (hd : ds = true ∨ npc = pc + 4) : Effect i s { s with pc := pc, npc := npc, ds := ds }
  | jumpLink (rd : RegNum) (v : Dword) (pc npc : Word) (ds : Bool) (hd : ds = true ∨ npc = pc + 4) :
      Effect i s { s.writeX rd v with pc := pc, npc := npc, ds := ds }
  | ret (hu : s.cop0Usable = true) (hi : i = .eret) : Effect i s s.exceptionReturn
  | tlb (k : BitVec 5) (hu : s.cop0Usable = true) (hi : writesTlbSlot i = true) : Effect i s (s.tlbWrite k).advance
  | cop0 (c : Cop0) (hu : s.cop0Usable = true) (hi : writesCop0Cells i = true) : Effect i s ({ s with cp0 := c } : State).advance
  | status (v : Word) (hu : s.cop0Usable = true) (hi : ∃ rt, i = .mtc0 rt 12) : Effect i s (writeStatus s v).advance

/-- An aligned access stays inside its aligned doubleword. -/
theorem aligned_within {n : Nat} {va : Word} (hn : n ∣ 8) (ha : alignedTo n va = true) : va.toNat % 8 + n ≤ 8 := by
  have h8 : n ≤ 8 := Nat.le_of_dvd (by decide) hn
  simp only [alignedTo, beq_iff_eq] at ha
  interval_cases n <;> omega

/-- The low `k` bits of an address as a remainder. -/
theorem low_bits (va : Word) (k : Nat) : (va.extractLsb' 0 k).toNat = va.toNat % 2 ^ k := by
  simp [BitVec.extractLsb']

theorem swl_within (va : Word) : va.toNat % 8 + (4 - inWord va) ≤ 8 := by
  have := low_bits va 2; unfold inWord; omega

theorem sdl_within (va : Word) : va.toNat % 8 + (8 - inDword va) ≤ 8 := by
  have := low_bits va 3; unfold inDword; omega

/-- The aligned word of an address starts at a multiple of 4. -/
theorem wordBase_mod (va : Word) : (wordBase va).toNat % 4 = 0 := by
  have h : (wordBase va).extractLsb' 0 2 = 0 := by
    unfold wordBase
    apply BitVec.eq_of_getLsbD_eq
    intro i hi
    have : i = 0 ∨ i = 1 := by omega
    rcases this with rfl | rfl <;> simp
  have hl := low_bits (wordBase va) 2
  rw [h] at hl; exact hl.symm

/-- The aligned doubleword of an address starts at a multiple of 8. -/
theorem dwordBase_mod (va : Word) : (dwordBase va).toNat % 8 = 0 := by
  have h : (dwordBase va).extractLsb' 0 3 = 0 := by
    unfold dwordBase
    apply BitVec.eq_of_getLsbD_eq
    intro i hi
    have : i = 0 ∨ i = 1 ∨ i = 2 := by omega
    rcases this with rfl | rfl | rfl <;> simp
  have hl := low_bits (dwordBase va) 3
  rw [h] at hl; exact hl.symm

theorem swr_within (va : Word) : (wordBase va).toNat % 8 + (inWord va + 1) ≤ 8 := by
  have h := wordBase_mod va
  have := low_bits va 2; unfold inWord; omega

theorem sdr_within (va : Word) : (dwordBase va).toNat % 8 + (inDword va + 1) ≤ 8 := by
  have h := dwordBase_mod va
  have := low_bits va 3; unfold inDword; omega

theorem plus_eight (a : Word) : a + 8 = a + 4 + 4 := by
  rw [BitVec.add_assoc]; rfl

theorem effect_writeOrOverflow {i : Instr} {s t : State} {rd : RegNum} {v : Option Dword}
    (h : writeOrOverflow s rd v = .next t) : Effect i s t := by
  rcases writeOrOverflow_next h with ⟨_, -, rfl⟩ | rfl
  · exact .reg _ _
  · exact .entry _

theorem effect_writeBack {i : Instr} {s t : State} {rd : RegNum} {v : Dword}
    (h : writeBack s rd v = .next t) : Effect i s t := by
  obtain rfl := writeBack_next h
  exact .reg _ _

theorem effect_loadAny {i : Instr} {s t : State} {va : Word} {n : Nat} {rd : RegNum} {f : Dword → Dword}
    (h : loadAny s va n (fun v u => writeBack u rd (f v)) = .next t) : Effect i s t := by
  rcases loadAny_next h with ⟨_, hp, h⟩ | ⟨_, rfl⟩
  · obtain rfl := writeBack_next h
    exact .load _ _ _ _ _ hp
  · exact .entry _

theorem effect_loadAt {i : Instr} {s t : State} {ea : Word} {n : Nat} {rd : RegNum} {f : Dword → Dword}
    (h : loadAt s ea n (fun v u => writeBack u rd (f v)) = .next t) : Effect i s t := by
  rcases whenAligned_next h with ⟨-, h⟩ | ⟨-, rfl⟩
  · exact effect_loadAny h
  · exact .entry _

theorem effect_storeAt {i : Instr} {s t : State} {ea : Word} {n : Nat} {v : Dword} (hn : n ∣ 8)
    (h : storeAt s ea n v finish = .next t) : Effect i s t := by
  rcases storeAt_next h with ⟨ha, _, hp, h⟩ | ⟨_, rfl⟩
  · obtain rfl := finish_next.1 h
    exact .store _ _ _ _ hp (aligned_within hn ha)
  · exact .entry _

theorem effect_branchIf {i : Instr} {s t : State} {c : Bool} {a : Word}
    (h : whenNotDelaySlot s (branchIf s c a) = .next t) : Effect i s t := by
  replace h := (whenNotDelaySlot_next h).2
  rcases branchIf_next h with rfl | rfl
  · exact .jump _ _ _ (.inl rfl)
  · exact .jump _ _ _ (.inl rfl)

theorem effect_branchLikelyIf {i : Instr} {s t : State} {c : Bool} {a : Word}
    (h : whenNotDelaySlot s (branchLikelyIf s c a) = .next t) : Effect i s t := by
  replace h := (whenNotDelaySlot_next h).2
  rcases branchLikelyIf_next h with rfl | rfl
  · exact .jump _ _ _ (.inl rfl)
  · exact .jump _ _ _ (.inr (plus_eight _))

theorem effect_trapIf {i : Instr} {s t : State} {c : Bool}
    (h : trapIf s c = .next t) : Effect i s t := by
  rcases trapIf_next h with rfl | rfl
  · exact .nothing
  · exact .entry _

theorem effect_binaryS {i : Instr} {s t : State} {fs ft fd : RegNum} {op : RoundMode → Word → Word → Word}
    (h : binaryS s fs ft fd op = .next t) : Effect i s t := by
  rcases binaryS_next h with ⟨_, rfl⟩ | ⟨_, rfl⟩
  · exact .fpS _ _
  · exact .entry _

theorem effect_binaryD {i : Instr} {s t : State} {fs ft fd : RegNum} {op : RoundMode → Dword → Dword → Dword}
    (h : binaryD s fs ft fd op = .next t) : Effect i s t := by
  rcases binaryD_next h with ⟨_, rfl⟩ | ⟨_, rfl⟩
  · exact .fpD _ _
  · exact .entry _

theorem effect_unaryS {i : Instr} {s t : State} {fs fd : RegNum} {op : Word → Word}
    (h : unaryS s fs fd op = .next t) : Effect i s t := by
  rcases unaryS_next h with ⟨_, rfl⟩ | ⟨_, rfl⟩
  · exact .fpS _ _
  · exact .entry _

theorem effect_unaryD {i : Instr} {s t : State} {fs fd : RegNum} {op : Dword → Dword}
    (h : unaryD s fs fd op = .next t) : Effect i s t := by
  rcases unaryD_next h with ⟨_, rfl⟩ | ⟨_, rfl⟩
  · exact .fpD _ _
  · exact .entry _

theorem effect_convertStoD {i : Instr} {s t : State} {fs fd : RegNum} {op : Word → Dword}
    (h : convertStoD s fs fd op = .next t) : Effect i s t := by
  rcases convertStoD_next h with ⟨_, rfl⟩ | ⟨_, rfl⟩
  · exact .fpD _ _
  · exact .entry _

theorem effect_convertDtoD {i : Instr} {s t : State} {fs fd : RegNum} {op : Dword → Dword}
    (h : convertDtoD s fs fd op = .next t) : Effect i s t := by
  rcases convertDtoD_next h with ⟨_, rfl⟩ | ⟨_, rfl⟩
  · exact .fpD _ _
  · exact .entry _

theorem effect_convertStoS {i : Instr} {s t : State} {fs fd : RegNum} {op : Word → Word}
    (h : convertStoS s fs fd op = .next t) : Effect i s t := by
  rcases convertStoS_next h with ⟨_, rfl⟩ | ⟨_, rfl⟩
  · exact .fpS _ _
  · exact .entry _

theorem effect_convertDtoS {i : Instr} {s t : State} {fs fd : RegNum} {op : Dword → Word}
    (h : convertDtoS s fs fd op = .next t) : Effect i s t := by
  rcases convertDtoS_next h with ⟨_, rfl⟩ | ⟨_, rfl⟩
  · exact .fpS _ _
  · exact .entry _

theorem effect_compareS {i : Instr} {s t : State} {cond : BitVec 4} {fs ft : RegNum} (hi : isCompare i = true)
    (h : compareS s cond fs ft = .next t) : Effect i s t := by
  rcases compareS_next h with ⟨_, rfl⟩ | ⟨_, rfl⟩
  · exact .condition _ hi
  · exact .entry _

theorem effect_compareD {i : Instr} {s t : State} {cond : BitVec 4} {fs ft : RegNum} (hi : isCompare i = true)
    (h : compareD s cond fs ft = .next t) : Effect i s t := by
  rcases compareD_next h with ⟨_, rfl⟩ | ⟨_, rfl⟩
  · exact .condition _ hi
  · exact .entry _

theorem effect_mthi {s t : State} {a} (h : exec (.mthi a) s = .next t) :
    Effect (.mthi a) s t := by
  obtain rfl := finish_next.1 h
  exact .hiLo _ _ rfl

theorem effect_mtlo {s t : State} {a} (h : exec (.mtlo a) s = .next t) :
    Effect (.mtlo a) s t := by
  obtain rfl := finish_next.1 h
  exact .hiLo _ _ rfl

theorem effect_mult {s t : State} {a b} (h : exec (.mult a b) s = .next t) :
    Effect (.mult a b) s t := by
  obtain rfl := finish_next.1 h
  exact .hiLo _ _ rfl

theorem effect_multu {s t : State} {a b} (h : exec (.multu a b) s = .next t) :
    Effect (.multu a b) s t := by
  obtain rfl := finish_next.1 h
  exact .hiLo _ _ rfl

theorem effect_div {s t : State} {a b} (h : exec (.div a b) s = .next t) :
    Effect (.div a b) s t := by
  obtain rfl := finish_next.1 h
  split
  · exact .hiLo _ _ rfl
  · exact .hiLo _ _ rfl

theorem effect_divu {s t : State} {a b} (h : exec (.divu a b) s = .next t) :
    Effect (.divu a b) s t := by
  obtain rfl := finish_next.1 h
  split
  · exact .hiLo _ _ rfl
  · exact .hiLo _ _ rfl

theorem effect_dmult {s t : State} {a b} (h : exec (.dmult a b) s = .next t) :
    Effect (.dmult a b) s t := by
  obtain rfl := finish_next.1 h
  exact .hiLo _ _ rfl

theorem effect_dmultu {s t : State} {a b} (h : exec (.dmultu a b) s = .next t) :
    Effect (.dmultu a b) s t := by
  obtain rfl := finish_next.1 h
  exact .hiLo _ _ rfl

theorem effect_ddiv {s t : State} {a b} (h : exec (.ddiv a b) s = .next t) :
    Effect (.ddiv a b) s t := by
  obtain rfl := finish_next.1 h
  split
  · exact .hiLo _ _ rfl
  · exact .hiLo _ _ rfl

theorem effect_ddivu {s t : State} {a b} (h : exec (.ddivu a b) s = .next t) :
    Effect (.ddivu a b) s t := by
  obtain rfl := finish_next.1 h
  split
  · exact .hiLo _ _ rfl
  · exact .hiLo _ _ rfl

theorem effect_sync {s t : State} (h : exec (.sync) s = .next t) :
    Effect (.sync) s t := by
  obtain rfl := finish_next.1 h
  exact .nothing

theorem effect_cache {s t : State} {a b c} (h : exec (.cache a b c) s = .next t) :
    Effect (.cache a b c) s t := by
  obtain rfl := finish_next.1 h
  exact .nothing

theorem effect_ll {s t : State} {a b c} (h : exec (.ll a b c) s = .next t) :
    Effect (.ll a b c) s t := by
  rcases loadAt_next h with ⟨_, hp, h⟩ | ⟨_, rfl⟩
  · obtain rfl := finish_next.1 h
    exact .link _ _ _ _ _ rfl hp
  · exact .entry _

theorem effect_lld {s t : State} {a b c} (h : exec (.lld a b c) s = .next t) :
    Effect (.lld a b c) s t := by
  rcases loadAt_next h with ⟨_, hp, h⟩ | ⟨_, rfl⟩
  · obtain rfl := finish_next.1 h
    exact .link _ _ _ _ _ rfl hp
  · exact .entry _

theorem effect_swl {s t : State} {a b c} (h : exec (.swl a b c) s = .next t) :
    Effect (.swl a b c) s t := by
  rcases storeAny_next h with ⟨_, hp, rfl⟩ | ⟨_, rfl⟩
  · exact .store _ _ _ _ hp (swl_within _)
  · exact .entry _

theorem effect_swr {s t : State} {a b c} (h : exec (.swr a b c) s = .next t) :
    Effect (.swr a b c) s t := by
  rcases storeAny_next h with ⟨_, hp, rfl⟩ | ⟨_, rfl⟩
  · exact .store _ _ _ _ hp (swr_within _)
  · exact .entry _

theorem effect_sdl {s t : State} {a b c} (h : exec (.sdl a b c) s = .next t) :
    Effect (.sdl a b c) s t := by
  rcases storeAny_next h with ⟨_, hp, rfl⟩ | ⟨_, rfl⟩
  · exact .store _ _ _ _ hp (sdl_within _)
  · exact .entry _

theorem effect_sdr {s t : State} {a b c} (h : exec (.sdr a b c) s = .next t) :
    Effect (.sdr a b c) s t := by
  rcases storeAny_next h with ⟨_, hp, rfl⟩ | ⟨_, rfl⟩
  · exact .store _ _ _ _ hp (sdr_within _)
  · exact .entry _

theorem effect_sc {s t : State} {a b c} (h : exec (.sc a b c) s = .next t) :
    Effect (.sc a b c) s t := by
  rcases storeConditional_next h with ⟨_, -, ha, hp, rfl⟩ | ⟨-, rfl⟩ | ⟨_, rfl⟩
  · exact .storeCond _ _ _ _ rfl hp (aligned_within (by decide) ha)
  · exact .reg _ _
  · exact .entry _

theorem effect_scd {s t : State} {a b c} (h : exec (.scd a b c) s = .next t) :
    Effect (.scd a b c) s t := by
  rcases storeConditional_next h with ⟨_, -, ha, hp, rfl⟩ | ⟨-, rfl⟩ | ⟨_, rfl⟩
  · exact .storeCond _ _ _ _ rfl hp (aligned_within (by decide) ha)
  · exact .reg _ _
  · exact .entry _

theorem effect_j {s t : State} {a} (h : exec (.j a) s = .next t) :
    Effect (.j a) s t := by
  replace h := (whenNotDelaySlot_next h).2
  cases h
  exact .jump _ _ _ (.inl rfl)

theorem effect_jal {s t : State} {a} (h : exec (.jal a) s = .next t) :
    Effect (.jal a) s t := by
  replace h := (whenNotDelaySlot_next h).2
  cases h
  exact .jumpLink _ _ _ _ _ (.inl rfl)

theorem effect_jr {s t : State} {a} (h : exec (.jr a) s = .next t) :
    Effect (.jr a) s t := by
  replace h := (whenNotDelaySlot_next h).2
  cases h
  exact .jump _ _ _ (.inl rfl)

theorem effect_jalr {s t : State} {a b} (h : exec (.jalr a b) s = .next t) :
    Effect (.jalr a b) s t := by
  replace h := (whenNotDelaySlot_next h).2
  cases h
  exact .jumpLink _ _ _ _ _ (.inl rfl)

theorem effect_bltzal {s t : State} {a b} (h : exec (.bltzal a b) s = .next t) :
    Effect (.bltzal a b) s t := by
  replace h := (whenNotDelaySlot_next h).2
  rcases branchIf_next h with rfl | rfl
  · exact .jumpLink _ _ _ _ _ (.inl rfl)
  · exact .jumpLink _ _ _ _ _ (.inl rfl)

theorem effect_bgezal {s t : State} {a b} (h : exec (.bgezal a b) s = .next t) :
    Effect (.bgezal a b) s t := by
  replace h := (whenNotDelaySlot_next h).2
  rcases branchIf_next h with rfl | rfl
  · exact .jumpLink _ _ _ _ _ (.inl rfl)
  · exact .jumpLink _ _ _ _ _ (.inl rfl)

theorem effect_bltzall {s t : State} {a b} (h : exec (.bltzall a b) s = .next t) :
    Effect (.bltzall a b) s t := by
  replace h := (whenNotDelaySlot_next h).2
  rcases branchLikelyIf_next h with rfl | rfl
  · exact .jumpLink _ _ _ _ _ (.inl rfl)
  · exact .jumpLink _ _ _ _ _ (.inr (plus_eight _))

theorem effect_bgezall {s t : State} {a b} (h : exec (.bgezall a b) s = .next t) :
    Effect (.bgezall a b) s t := by
  replace h := (whenNotDelaySlot_next h).2
  rcases branchLikelyIf_next h with rfl | rfl
  · exact .jumpLink _ _ _ _ _ (.inl rfl)
  · exact .jumpLink _ _ _ _ _ (.inr (plus_eight _))

theorem effect_syscall {s t : State} (h : exec (.syscall) s = .next t) :
    Effect (.syscall) s t := by
  obtain rfl := raise_next.1 h
  exact .entry _

theorem effect_break {s t : State} (h : exec (.break_) s = .next t) :
    Effect (.break_) s t := by
  obtain rfl := raise_next.1 h
  exact .entry _

theorem effect_mfc0 {s t : State} {a b} (h : exec (.mfc0 a b) s = .next t) :
    Effect (.mfc0 a b) s t := by
  rcases whenCop0_next h with ⟨hu, h⟩ | ⟨-, rfl⟩
  · split at h
    · obtain rfl := writeBack_next h
      exact .reg _ _
    · cases h
  · exact .entry _

theorem effect_mtc0 {s t : State} {a b} (h : exec (.mtc0 a b) s = .next t) :
    Effect (.mtc0 a b) s t := by
  rcases whenCop0_next h with ⟨hu, h⟩ | ⟨-, rfl⟩
  · rcases writeCop0_next h with rfl | ⟨_, rfl⟩ | ⟨rfl, rfl⟩
    · exact .nothing
    · exact .cop0 _ hu rfl
    · exact .status _ hu ⟨_, rfl⟩
  · exact .entry _

theorem effect_tlbr {s t : State} (h : exec (.tlbr) s = .next t) :
    Effect (.tlbr) s t := by
  rcases whenCop0_next h with ⟨hu, h⟩ | ⟨-, rfl⟩
  · obtain rfl := finish_next.1 h
    exact .cop0 _ hu rfl
  · exact .entry _

theorem effect_tlbwi {s t : State} (h : exec (.tlbwi) s = .next t) :
    Effect (.tlbwi) s t := by
  rcases whenCop0_next h with ⟨hu, h⟩ | ⟨-, rfl⟩
  · obtain rfl := finish_next.1 h
    exact .tlb _ hu rfl
  · exact .entry _

theorem effect_tlbwr {s t : State} (h : exec (.tlbwr) s = .next t) :
    Effect (.tlbwr) s t := by
  rcases whenCop0_next h with ⟨hu, h⟩ | ⟨-, rfl⟩
  · split at h
    · obtain rfl := finish_next.1 h
      exact .tlb _ hu rfl
    · cases h
  · exact .entry _

theorem effect_tlbp {s t : State} (h : exec (.tlbp) s = .next t) :
    Effect (.tlbp) s t := by
  rcases whenCop0_next h with ⟨hu, h⟩ | ⟨-, rfl⟩
  · obtain rfl := finish_next.1 h
    exact .cop0 _ hu rfl
  · exact .entry _

theorem effect_eret {s t : State} (h : exec (.eret) s = .next t) :
    Effect (.eret) s t := by
  replace h := (whenNotDelaySlot_next h).2
  rcases whenCop0_next h with ⟨hu, h⟩ | ⟨-, rfl⟩
  · split at h
    · cases h
      exact .ret hu rfl
    · cases h
  · exact .entry _

theorem effect_mfc1 {s t : State} {a b} (h : exec (.mfc1 a b) s = .next t) :
    Effect (.mfc1 a b) s t := by
  rcases whenCop1_next h with ⟨-, h⟩ | ⟨-, rfl⟩
  · obtain rfl := writeBack_next h
    exact .reg _ _
  · exact .entry _

theorem effect_dmfc1 {s t : State} {a b} (h : exec (.dmfc1 a b) s = .next t) :
    Effect (.dmfc1 a b) s t := by
  rcases whenCop1_next h with ⟨-, h⟩ | ⟨-, rfl⟩
  · obtain rfl := writeBack_next (whenD_next h).2
    exact .reg _ _
  · exact .entry _

theorem effect_dmtc1 {s t : State} {a b} (h : exec (.dmtc1 a b) s = .next t) :
    Effect (.dmtc1 a b) s t := by
  rcases whenCop1_next h with ⟨-, h⟩ | ⟨-, rfl⟩
  · obtain rfl := finish_next.1 (whenD_next h).2
    exact .fpD _ _
  · exact .entry _

theorem effect_ldc1 {s t : State} {a b c} (h : exec (.ldc1 a b c) s = .next t) :
    Effect (.ldc1 a b c) s t := by
  rcases whenCop1_next h with ⟨-, h⟩ | ⟨-, rfl⟩
  · rcases loadAt_next h with ⟨_, hp, h⟩ | ⟨_, rfl⟩
    · obtain rfl := finish_next.1 (whenD_next h).2
      exact .loadD _ _ _ _ _ hp
    · exact .entry _
  · exact .entry _

theorem effect_sdc1 {s t : State} {a b c} (h : exec (.sdc1 a b c) s = .next t) :
    Effect (.sdc1 a b c) s t := by
  rcases whenCop1_next h with ⟨-, h⟩ | ⟨-, rfl⟩
  · rcases whenAligned_next h with ⟨ha, h⟩ | ⟨-, rfl⟩
    · rcases storeAny_next (whenD_next h).2 with ⟨_, hp, rfl⟩ | ⟨_, rfl⟩
      · exact .store _ _ _ _ hp (aligned_within (by decide) ha)
      · exact .entry _
    · exact .entry _
  · exact .entry _

theorem effect_cfc1 {s t : State} {a b} (h : exec (.cfc1 a b) s = .next t) :
    Effect (.cfc1 a b) s t := by
  rcases whenCop1_next h with ⟨-, h⟩ | ⟨-, rfl⟩
  · split at h
    · obtain rfl := writeBack_next h
      exact .reg _ _
    · split at h
      · obtain rfl := writeBack_next h
        exact .reg _ _
      · obtain rfl := finish_next.1 h
        exact .freeRead _ _
  · exact .entry _

theorem effect_ctc1 {s t : State} {a b} (h : exec (.ctc1 a b) s = .next t) :
    Effect (.ctc1 a b) s t := by
  rcases whenCop1_next h with ⟨-, h⟩ | ⟨-, rfl⟩
  · split at h
    · rename_i hf
      obtain rfl := finish_next.1 h
      exact .control _ ⟨_, by rw [hf]⟩
    · obtain rfl := finish_next.1 h
      exact .nothing
  · exact .entry _

theorem effect_mtc1 {s t : State} {a b} (h : exec (.mtc1 a b) s = .next t) :
    Effect (.mtc1 a b) s t := by
  rcases whenCop1_next h with ⟨-, h⟩ | ⟨-, rfl⟩
  · obtain rfl := finish_next.1 h
    exact .fpS _ _
  · exact .entry _

theorem effect_bc1f {s t : State} {a} (h : exec (.bc1f a) s = .next t) :
    Effect (.bc1f a) s t := by
  replace h := (whenNotDelaySlot_next h).2
  rcases whenCop1_next h with ⟨-, h⟩ | ⟨-, rfl⟩
  · rcases branchIf_next h with rfl | rfl
    · exact .jump _ _ _ (.inl rfl)
    · exact .jump _ _ _ (.inl rfl)
  · exact .entry _

theorem effect_bc1t {s t : State} {a} (h : exec (.bc1t a) s = .next t) :
    Effect (.bc1t a) s t := by
  replace h := (whenNotDelaySlot_next h).2
  rcases whenCop1_next h with ⟨-, h⟩ | ⟨-, rfl⟩
  · rcases branchIf_next h with rfl | rfl
    · exact .jump _ _ _ (.inl rfl)
    · exact .jump _ _ _ (.inl rfl)
  · exact .entry _

theorem effect_bc1fl {s t : State} {a} (h : exec (.bc1fl a) s = .next t) :
    Effect (.bc1fl a) s t := by
  replace h := (whenNotDelaySlot_next h).2
  rcases whenCop1_next h with ⟨-, h⟩ | ⟨-, rfl⟩
  · rcases branchLikelyIf_next h with rfl | rfl
    · exact .jump _ _ _ (.inl rfl)
    · exact .jump _ _ _ (.inr (plus_eight _))
  · exact .entry _

theorem effect_bc1tl {s t : State} {a} (h : exec (.bc1tl a) s = .next t) :
    Effect (.bc1tl a) s t := by
  replace h := (whenNotDelaySlot_next h).2
  rcases whenCop1_next h with ⟨-, h⟩ | ⟨-, rfl⟩
  · rcases branchLikelyIf_next h with rfl | rfl
    · exact .jump _ _ _ (.inl rfl)
    · exact .jump _ _ _ (.inr (plus_eight _))
  · exact .entry _

theorem effect_lwc1 {s t : State} {a b c} (h : exec (.lwc1 a b c) s = .next t) :
    Effect (.lwc1 a b c) s t := by
  rcases whenCop1_next h with ⟨-, h⟩ | ⟨-, rfl⟩
  · rcases loadAt_next h with ⟨_, hp, h⟩ | ⟨_, rfl⟩
    · obtain rfl := finish_next.1 h
      exact .loadS _ _ _ _ _ hp
    · exact .entry _
  · exact .entry _

theorem effect_swc1 {s t : State} {a b c} (h : exec (.swc1 a b c) s = .next t) :
    Effect (.swc1 a b c) s t := by
  rcases whenCop1_next h with ⟨-, h⟩ | ⟨-, rfl⟩
  · rcases storeAt_next h with ⟨ha, _, hp, h⟩ | ⟨_, rfl⟩
    · obtain rfl := finish_next.1 h
      exact .store _ _ _ _ hp (aligned_within (by decide) ha)
    · exact .entry _
  · exact .entry _

/-- Every state `exec` answers is one of these. -/
theorem exec_effect {i : Instr} {s t : State} (h : exec i s = .next t) : Effect i s t := by
  cases i with
  | addi _ _ _ => unfold exec execAddi at h; exact effect_writeOrOverflow h
  | daddi _ _ _ => unfold exec execDaddi at h; exact effect_writeOrOverflow h
  | add _ _ _ => unfold exec execAdd at h; exact effect_writeOrOverflow h
  | sub _ _ _ => unfold exec execSub at h; exact effect_writeOrOverflow h
  | dadd _ _ _ => unfold exec execDadd at h; exact effect_writeOrOverflow h
  | dsub _ _ _ => unfold exec execDsub at h; exact effect_writeOrOverflow h
  | addiu _ _ _ => unfold exec execAddiu at h; exact effect_writeBack h
  | slti _ _ _ => unfold exec execSlti at h; exact effect_writeBack h
  | sltiu _ _ _ => unfold exec execSltiu at h; exact effect_writeBack h
  | andi _ _ _ => unfold exec execAndi at h; exact effect_writeBack h
  | ori _ _ _ => unfold exec execOri at h; exact effect_writeBack h
  | xori _ _ _ => unfold exec execXori at h; exact effect_writeBack h
  | lui _ _ => unfold exec execLui at h; exact effect_writeBack h
  | daddiu _ _ _ => unfold exec execDaddiu at h; exact effect_writeBack h
  | addu _ _ _ => unfold exec execAddu at h; exact effect_writeBack h
  | subu _ _ _ => unfold exec execSubu at h; exact effect_writeBack h
  | and _ _ _ => unfold exec execAnd at h; exact effect_writeBack h
  | or _ _ _ => unfold exec execOr at h; exact effect_writeBack h
  | xor _ _ _ => unfold exec execXor at h; exact effect_writeBack h
  | nor _ _ _ => unfold exec execNor at h; exact effect_writeBack h
  | slt _ _ _ => unfold exec execSlt at h; exact effect_writeBack h
  | sltu _ _ _ => unfold exec execSltu at h; exact effect_writeBack h
  | daddu _ _ _ => unfold exec execDaddu at h; exact effect_writeBack h
  | dsubu _ _ _ => unfold exec execDsubu at h; exact effect_writeBack h
  | sll _ _ _ => unfold exec execSll at h; exact effect_writeBack h
  | srl _ _ _ => unfold exec execSrl at h; exact effect_writeBack h
  | sra _ _ _ => unfold exec execSra at h; exact effect_writeBack h
  | sllv _ _ _ => unfold exec execSllv at h; exact effect_writeBack h
  | srlv _ _ _ => unfold exec execSrlv at h; exact effect_writeBack h
  | srav _ _ _ => unfold exec execSrav at h; exact effect_writeBack h
  | dsll _ _ _ => unfold exec execDsll at h; exact effect_writeBack h
  | dsrl _ _ _ => unfold exec execDsrl at h; exact effect_writeBack h
  | dsra _ _ _ => unfold exec execDsra at h; exact effect_writeBack h
  | dsllv _ _ _ => unfold exec execDsllv at h; exact effect_writeBack h
  | dsrlv _ _ _ => unfold exec execDsrlv at h; exact effect_writeBack h
  | dsrav _ _ _ => unfold exec execDsrav at h; exact effect_writeBack h
  | dsll32 _ _ _ => unfold exec execDsll32 at h; exact effect_writeBack h
  | dsrl32 _ _ _ => unfold exec execDsrl32 at h; exact effect_writeBack h
  | dsra32 _ _ _ => unfold exec execDsra32 at h; exact effect_writeBack h
  | mfhi _ => unfold exec execMfhi at h; exact effect_writeBack h
  | mflo _ => unfold exec execMflo at h; exact effect_writeBack h
  | mthi _ => exact effect_mthi h
  | mtlo _ => exact effect_mtlo h
  | mult _ _ => exact effect_mult h
  | multu _ _ => exact effect_multu h
  | div _ _ => exact effect_div h
  | divu _ _ => exact effect_divu h
  | dmult _ _ => exact effect_dmult h
  | dmultu _ _ => exact effect_dmultu h
  | ddiv _ _ => exact effect_ddiv h
  | ddivu _ _ => exact effect_ddivu h
  | sync => exact effect_sync h
  | cache _ _ _ => exact effect_cache h
  | lb _ _ _ => unfold exec execLb at h; exact effect_loadAt h
  | lbu _ _ _ => unfold exec execLbu at h; exact effect_loadAt h
  | lh _ _ _ => unfold exec execLh at h; exact effect_loadAt h
  | lhu _ _ _ => unfold exec execLhu at h; exact effect_loadAt h
  | lw _ _ _ => unfold exec execLw at h; exact effect_loadAt h
  | lwu _ _ _ => unfold exec execLwu at h; exact effect_loadAt h
  | ld _ _ _ => unfold exec execLd at h; exact effect_loadAt h
  | ll _ _ _ => exact effect_ll h
  | lld _ _ _ => exact effect_lld h
  | lwl _ _ _ => unfold exec execLwl at h; exact effect_loadAny h
  | lwr _ _ _ => unfold exec execLwr at h; exact effect_loadAny h
  | ldl _ _ _ => unfold exec execLdl at h; exact effect_loadAny h
  | ldr _ _ _ => unfold exec execLdr at h; exact effect_loadAny h
  | swl _ _ _ => exact effect_swl h
  | swr _ _ _ => exact effect_swr h
  | sdl _ _ _ => exact effect_sdl h
  | sdr _ _ _ => exact effect_sdr h
  | sb _ _ _ => unfold exec execSb at h; exact effect_storeAt (by decide) h
  | sh _ _ _ => unfold exec execSh at h; exact effect_storeAt (by decide) h
  | sw _ _ _ => unfold exec execSw at h; exact effect_storeAt (by decide) h
  | sd _ _ _ => unfold exec execSd at h; exact effect_storeAt (by decide) h
  | sc _ _ _ => exact effect_sc h
  | scd _ _ _ => exact effect_scd h
  | j _ => exact effect_j h
  | jal _ => exact effect_jal h
  | jr _ => exact effect_jr h
  | jalr _ _ => exact effect_jalr h
  | beq _ _ _ => unfold exec execBeq at h; exact effect_branchIf h
  | bne _ _ _ => unfold exec execBne at h; exact effect_branchIf h
  | blez _ _ => unfold exec execBlez at h; exact effect_branchIf h
  | bgtz _ _ => unfold exec execBgtz at h; exact effect_branchIf h
  | bltz _ _ => unfold exec execBltz at h; exact effect_branchIf h
  | bgez _ _ => unfold exec execBgez at h; exact effect_branchIf h
  | bltzal _ _ => exact effect_bltzal h
  | bgezal _ _ => exact effect_bgezal h
  | beql _ _ _ => unfold exec execBeql at h; exact effect_branchLikelyIf h
  | bnel _ _ _ => unfold exec execBnel at h; exact effect_branchLikelyIf h
  | blezl _ _ => unfold exec execBlezl at h; exact effect_branchLikelyIf h
  | bgtzl _ _ => unfold exec execBgtzl at h; exact effect_branchLikelyIf h
  | bltzl _ _ => unfold exec execBltzl at h; exact effect_branchLikelyIf h
  | bgezl _ _ => unfold exec execBgezl at h; exact effect_branchLikelyIf h
  | bltzall _ _ => exact effect_bltzall h
  | bgezall _ _ => exact effect_bgezall h
  | syscall => exact effect_syscall h
  | break_ => exact effect_break h
  | tge _ _ => unfold exec execTge at h; exact effect_trapIf h
  | tgeu _ _ => unfold exec execTgeu at h; exact effect_trapIf h
  | tlt _ _ => unfold exec execTlt at h; exact effect_trapIf h
  | tltu _ _ => unfold exec execTltu at h; exact effect_trapIf h
  | teq _ _ => unfold exec execTeq at h; exact effect_trapIf h
  | tne _ _ => unfold exec execTne at h; exact effect_trapIf h
  | tgei _ _ => unfold exec execTgei at h; exact effect_trapIf h
  | tgeiu _ _ => unfold exec execTgeiu at h; exact effect_trapIf h
  | tlti _ _ => unfold exec execTlti at h; exact effect_trapIf h
  | tltiu _ _ => unfold exec execTltiu at h; exact effect_trapIf h
  | teqi _ _ => unfold exec execTeqi at h; exact effect_trapIf h
  | tnei _ _ => unfold exec execTnei at h; exact effect_trapIf h
  | mfc0 _ _ => exact effect_mfc0 h
  | mtc0 _ _ => exact effect_mtc0 h
  | tlbr => exact effect_tlbr h
  | tlbwi => exact effect_tlbwi h
  | tlbwr => exact effect_tlbwr h
  | tlbp => exact effect_tlbp h
  | eret => exact effect_eret h
  | mfc1 _ _ => exact effect_mfc1 h
  | dmfc1 _ _ => exact effect_dmfc1 h
  | dmtc1 _ _ => exact effect_dmtc1 h
  | ldc1 _ _ _ => exact effect_ldc1 h
  | sdc1 _ _ _ => exact effect_sdc1 h
  | cfc1 _ _ => exact effect_cfc1 h
  | ctc1 _ _ => exact effect_ctc1 h
  | mtc1 _ _ => exact effect_mtc1 h
  | bc1f _ => exact effect_bc1f h
  | bc1t _ => exact effect_bc1t h
  | bc1fl _ => exact effect_bc1fl h
  | bc1tl _ => exact effect_bc1tl h
  | lwc1 _ _ _ => exact effect_lwc1 h
  | swc1 _ _ _ => exact effect_swc1 h
  | addS _ _ _ => unfold exec execAddS at h; exact effect_binaryS h
  | subS _ _ _ => unfold exec execSubS at h; exact effect_binaryS h
  | mulS _ _ _ => unfold exec execMulS at h; exact effect_binaryS h
  | divS _ _ _ => unfold exec execDivS at h; exact effect_binaryS h
  | addD _ _ _ => unfold exec execAddD at h; exact effect_binaryD h
  | subD _ _ _ => unfold exec execSubD at h; exact effect_binaryD h
  | mulD _ _ _ => unfold exec execMulD at h; exact effect_binaryD h
  | divD _ _ _ => unfold exec execDivD at h; exact effect_binaryD h
  | sqrtS _ _ => unfold exec execSqrtS at h; exact effect_unaryS h
  | absS _ _ => unfold exec execAbsS at h; exact effect_unaryS h
  | movS _ _ => unfold exec execMovS at h; exact effect_unaryS h
  | negS _ _ => unfold exec execNegS at h; exact effect_unaryS h
  | sqrtD _ _ => unfold exec execSqrtD at h; exact effect_unaryD h
  | absD _ _ => unfold exec execAbsD at h; exact effect_unaryD h
  | movD _ _ => unfold exec execMovD at h; exact effect_unaryD h
  | negD _ _ => unfold exec execNegD at h; exact effect_unaryD h
  | roundLS _ _ => unfold exec execRoundLS at h; exact effect_convertStoD h
  | truncLS _ _ => unfold exec execTruncLS at h; exact effect_convertStoD h
  | ceilLS _ _ => unfold exec execCeilLS at h; exact effect_convertStoD h
  | floorLS _ _ => unfold exec execFloorLS at h; exact effect_convertStoD h
  | cvtDS _ _ => unfold exec execCvtDS at h; exact effect_convertStoD h
  | cvtDW _ _ => unfold exec execCvtDW at h; exact effect_convertStoD h
  | cvtLS _ _ => unfold exec execCvtLS at h; exact effect_convertStoD h
  | roundLD _ _ => unfold exec execRoundLD at h; exact effect_convertDtoD h
  | truncLD _ _ => unfold exec execTruncLD at h; exact effect_convertDtoD h
  | ceilLD _ _ => unfold exec execCeilLD at h; exact effect_convertDtoD h
  | floorLD _ _ => unfold exec execFloorLD at h; exact effect_convertDtoD h
  | cvtDL _ _ => unfold exec execCvtDL at h; exact effect_convertDtoD h
  | cvtLD _ _ => unfold exec execCvtLD at h; exact effect_convertDtoD h
  | roundWS _ _ => unfold exec execRoundWS at h; exact effect_convertStoS h
  | truncWS _ _ => unfold exec execTruncWS at h; exact effect_convertStoS h
  | ceilWS _ _ => unfold exec execCeilWS at h; exact effect_convertStoS h
  | floorWS _ _ => unfold exec execFloorWS at h; exact effect_convertStoS h
  | cvtSW _ _ => unfold exec execCvtSW at h; exact effect_convertStoS h
  | cvtWS _ _ => unfold exec execCvtWS at h; exact effect_convertStoS h
  | roundWD _ _ => unfold exec execRoundWD at h; exact effect_convertDtoS h
  | truncWD _ _ => unfold exec execTruncWD at h; exact effect_convertDtoS h
  | ceilWD _ _ => unfold exec execCeilWD at h; exact effect_convertDtoS h
  | floorWD _ _ => unfold exec execFloorWD at h; exact effect_convertDtoS h
  | cvtSD _ _ => unfold exec execCvtSD at h; exact effect_convertDtoS h
  | cvtSL _ _ => unfold exec execCvtSL at h; exact effect_convertDtoS h
  | cvtWD _ _ => unfold exec execCvtWD at h; exact effect_convertDtoS h
  | cFS _ _ => exact effect_compareS rfl h
  | cUnS _ _ => exact effect_compareS rfl h
  | cEqS _ _ => exact effect_compareS rfl h
  | cUeqS _ _ => exact effect_compareS rfl h
  | cOltS _ _ => exact effect_compareS rfl h
  | cUltS _ _ => exact effect_compareS rfl h
  | cOleS _ _ => exact effect_compareS rfl h
  | cUleS _ _ => exact effect_compareS rfl h
  | cSfS _ _ => exact effect_compareS rfl h
  | cNgleS _ _ => exact effect_compareS rfl h
  | cSeqS _ _ => exact effect_compareS rfl h
  | cNglS _ _ => exact effect_compareS rfl h
  | cLtS _ _ => exact effect_compareS rfl h
  | cNgeS _ _ => exact effect_compareS rfl h
  | cLeS _ _ => exact effect_compareS rfl h
  | cNgtS _ _ => exact effect_compareS rfl h
  | cFD _ _ => exact effect_compareD rfl h
  | cUnD _ _ => exact effect_compareD rfl h
  | cEqD _ _ => exact effect_compareD rfl h
  | cUeqD _ _ => exact effect_compareD rfl h
  | cOltD _ _ => exact effect_compareD rfl h
  | cUltD _ _ => exact effect_compareD rfl h
  | cOleD _ _ => exact effect_compareD rfl h
  | cUleD _ _ => exact effect_compareD rfl h
  | cSfD _ _ => exact effect_compareD rfl h
  | cNgleD _ _ => exact effect_compareD rfl h
  | cSeqD _ _ => exact effect_compareD rfl h
  | cNglD _ _ => exact effect_compareD rfl h
  | cLtD _ _ => exact effect_compareD rfl h
  | cNgeD _ _ => exact effect_compareD rfl h
  | cLeD _ _ => exact effect_compareD rfl h
  | cNgtD _ _ => exact effect_compareD rfl h

end Sys2Proof.Machine
end

