-- ==== Sys2Proof/Laws/PerInstr.lean ====
section
/-! SUPPORT. The family EncodeOpcode: the encoder puts the major opcode of the instruction's table row (R147, step 1) in bits
31:26, whatever the operands. One lemma per constructor. -/

namespace Sys2Proof.Laws.EncodeOpcode

/-- The major opcode of each row of spec/opcode_table.json (R147, step 1). -/
def majorOpcode : Instr → BitVec 6
  | .addi _ _ _ => 0x08
  | .addiu _ _ _ => 0x09
  | .slti _ _ _ => 0x0A
  | .sltiu _ _ _ => 0x0B
  | .andi _ _ _ => 0x0C
  | .ori _ _ _ => 0x0D
  | .xori _ _ _ => 0x0E
  | .lui _ _ => 0x0F
  | .daddi _ _ _ => 0x18
  | .daddiu _ _ _ => 0x19
  | .add _ _ _ => 0x00
  | .addu _ _ _ => 0x00
  | .sub _ _ _ => 0x00
  | .subu _ _ _ => 0x00
  | .and _ _ _ => 0x00
  | .or _ _ _ => 0x00
  | .xor _ _ _ => 0x00
  | .nor _ _ _ => 0x00
  | .slt _ _ _ => 0x00
  | .sltu _ _ _ => 0x00
  | .dadd _ _ _ => 0x00
  | .daddu _ _ _ => 0x00
  | .dsub _ _ _ => 0x00
  | .dsubu _ _ _ => 0x00
  | .sll _ _ _ => 0x00
  | .srl _ _ _ => 0x00
  | .sra _ _ _ => 0x00
  | .sllv _ _ _ => 0x00
  | .srlv _ _ _ => 0x00
  | .srav _ _ _ => 0x00
  | .dsll _ _ _ => 0x00
  | .dsrl _ _ _ => 0x00
  | .dsra _ _ _ => 0x00
  | .dsllv _ _ _ => 0x00
  | .dsrlv _ _ _ => 0x00
  | .dsrav _ _ _ => 0x00
  | .dsll32 _ _ _ => 0x00
  | .dsrl32 _ _ _ => 0x00
  | .dsra32 _ _ _ => 0x00
  | .mfhi _ => 0x00
  | .mthi _ => 0x00
  | .mflo _ => 0x00
  | .mtlo _ => 0x00
  | .mult _ _ => 0x00
  | .multu _ _ => 0x00
  | .div _ _ => 0x00
  | .divu _ _ => 0x00
  | .dmult _ _ => 0x00
  | .dmultu _ _ => 0x00
  | .ddiv _ _ => 0x00
  | .ddivu _ _ => 0x00
  | .lb _ _ _ => 0x20
  | .lbu _ _ _ => 0x24
  | .lh _ _ _ => 0x21
  | .lhu _ _ _ => 0x25
  | .lw _ _ _ => 0x23
  | .lwu _ _ _ => 0x27
  | .ld _ _ _ => 0x37
  | .lwl _ _ _ => 0x22
  | .lwr _ _ _ => 0x26
  | .ldl _ _ _ => 0x1A
  | .ldr _ _ _ => 0x1B
  | .sb _ _ _ => 0x28
  | .sh _ _ _ => 0x29
  | .sw _ _ _ => 0x2B
  | .sd _ _ _ => 0x3F
  | .swl _ _ _ => 0x2A
  | .swr _ _ _ => 0x2E
  | .sdl _ _ _ => 0x2C
  | .sdr _ _ _ => 0x2D
  | .ll _ _ _ => 0x30
  | .lld _ _ _ => 0x34
  | .sc _ _ _ => 0x38
  | .scd _ _ _ => 0x3C
  | .j _ => 0x02
  | .jal _ => 0x03
  | .jr _ => 0x00
  | .jalr _ _ => 0x00
  | .beq _ _ _ => 0x04
  | .bne _ _ _ => 0x05
  | .blez _ _ => 0x06
  | .bgtz _ _ => 0x07
  | .beql _ _ _ => 0x14
  | .bnel _ _ _ => 0x15
  | .blezl _ _ => 0x16
  | .bgtzl _ _ => 0x17
  | .bltz _ _ => 0x01
  | .bgez _ _ => 0x01
  | .bltzl _ _ => 0x01
  | .bgezl _ _ => 0x01
  | .bltzal _ _ => 0x01
  | .bgezal _ _ => 0x01
  | .bltzall _ _ => 0x01
  | .bgezall _ _ => 0x01
  | .syscall => 0x00
  | .break_ => 0x00
  | .sync => 0x00
  | .cache _ _ _ => 0x2F
  | .tge _ _ => 0x00
  | .tgeu _ _ => 0x00
  | .tlt _ _ => 0x00
  | .tltu _ _ => 0x00
  | .teq _ _ => 0x00
  | .tne _ _ => 0x00
  | .tgei _ _ => 0x01
  | .tgeiu _ _ => 0x01
  | .tlti _ _ => 0x01
  | .tltiu _ _ => 0x01
  | .teqi _ _ => 0x01
  | .tnei _ _ => 0x01
  | .mfc0 _ _ => 0x10
  | .mtc0 _ _ => 0x10
  | .tlbr => 0x10
  | .tlbwi => 0x10
  | .tlbwr => 0x10
  | .tlbp => 0x10
  | .eret => 0x10
  | .mfc1 _ _ => 0x11
  | .dmfc1 _ _ => 0x11
  | .cfc1 _ _ => 0x11
  | .mtc1 _ _ => 0x11
  | .dmtc1 _ _ => 0x11
  | .ctc1 _ _ => 0x11
  | .bc1f _ => 0x11
  | .bc1t _ => 0x11
  | .bc1fl _ => 0x11
  | .bc1tl _ => 0x11
  | .lwc1 _ _ _ => 0x31
  | .ldc1 _ _ _ => 0x35
  | .swc1 _ _ _ => 0x39
  | .sdc1 _ _ _ => 0x3D
  | .addS _ _ _ => 0x11
  | .addD _ _ _ => 0x11
  | .subS _ _ _ => 0x11
  | .subD _ _ _ => 0x11
  | .mulS _ _ _ => 0x11
  | .mulD _ _ _ => 0x11
  | .divS _ _ _ => 0x11
  | .divD _ _ _ => 0x11
  | .sqrtS _ _ => 0x11
  | .sqrtD _ _ => 0x11
  | .absS _ _ => 0x11
  | .absD _ _ => 0x11
  | .movS _ _ => 0x11
  | .movD _ _ => 0x11
  | .negS _ _ => 0x11
  | .negD _ _ => 0x11
  | .roundLS _ _ => 0x11
  | .roundLD _ _ => 0x11
  | .truncLS _ _ => 0x11
  | .truncLD _ _ => 0x11
  | .ceilLS _ _ => 0x11
  | .ceilLD _ _ => 0x11
  | .floorLS _ _ => 0x11
  | .floorLD _ _ => 0x11
  | .roundWS _ _ => 0x11
  | .roundWD _ _ => 0x11
  | .truncWS _ _ => 0x11
  | .truncWD _ _ => 0x11
  | .ceilWS _ _ => 0x11
  | .ceilWD _ _ => 0x11
  | .floorWS _ _ => 0x11
  | .floorWD _ _ => 0x11
  | .cvtSD _ _ => 0x11
  | .cvtSW _ _ => 0x11
  | .cvtSL _ _ => 0x11
  | .cvtDS _ _ => 0x11
  | .cvtDW _ _ => 0x11
  | .cvtDL _ _ => 0x11
  | .cvtWS _ _ => 0x11
  | .cvtWD _ _ => 0x11
  | .cvtLS _ _ => 0x11
  | .cvtLD _ _ => 0x11
  | .cFS _ _ => 0x11
  | .cFD _ _ => 0x11
  | .cUnS _ _ => 0x11
  | .cUnD _ _ => 0x11
  | .cEqS _ _ => 0x11
  | .cEqD _ _ => 0x11
  | .cUeqS _ _ => 0x11
  | .cUeqD _ _ => 0x11
  | .cOltS _ _ => 0x11
  | .cOltD _ _ => 0x11
  | .cUltS _ _ => 0x11
  | .cUltD _ _ => 0x11
  | .cOleS _ _ => 0x11
  | .cOleD _ _ => 0x11
  | .cUleS _ _ => 0x11
  | .cUleD _ _ => 0x11
  | .cSfS _ _ => 0x11
  | .cSfD _ _ => 0x11
  | .cNgleS _ _ => 0x11
  | .cNgleD _ _ => 0x11
  | .cSeqS _ _ => 0x11
  | .cSeqD _ _ => 0x11
  | .cNglS _ _ => 0x11
  | .cNglD _ _ => 0x11
  | .cLtS _ _ => 0x11
  | .cLtD _ _ => 0x11
  | .cNgeS _ _ => 0x11
  | .cNgeD _ _ => 0x11
  | .cLeS _ _ => 0x11
  | .cLeD _ _ => 0x11
  | .cNgtS _ _ => 0x11
  | .cNgtD _ _ => 0x11

/-- The encoded word carries the row's major opcode. -/
def Statement (i : Instr) : Prop := fieldOpcode (encode i) = majorOpcode i

theorem addi (rs : RegNum) (rt : RegNum) (imm : Half) : Statement (.addi rs rt imm) := fieldOpcode_encodeI ..
theorem addiu (rs : RegNum) (rt : RegNum) (imm : Half) : Statement (.addiu rs rt imm) := fieldOpcode_encodeI ..
theorem slti (rs : RegNum) (rt : RegNum) (imm : Half) : Statement (.slti rs rt imm) := fieldOpcode_encodeI ..
theorem sltiu (rs : RegNum) (rt : RegNum) (imm : Half) : Statement (.sltiu rs rt imm) := fieldOpcode_encodeI ..
theorem andi (rs : RegNum) (rt : RegNum) (imm : Half) : Statement (.andi rs rt imm) := fieldOpcode_encodeI ..
theorem ori (rs : RegNum) (rt : RegNum) (imm : Half) : Statement (.ori rs rt imm) := fieldOpcode_encodeI ..
theorem xori (rs : RegNum) (rt : RegNum) (imm : Half) : Statement (.xori rs rt imm) := fieldOpcode_encodeI ..
theorem lui (rt : RegNum) (imm : Half) : Statement (.lui rt imm) := fieldOpcode_encodeI ..
theorem daddi (rs : RegNum) (rt : RegNum) (imm : Half) : Statement (.daddi rs rt imm) := fieldOpcode_encodeI ..
theorem daddiu (rs : RegNum) (rt : RegNum) (imm : Half) : Statement (.daddiu rs rt imm) := fieldOpcode_encodeI ..
theorem add (rs : RegNum) (rt : RegNum) (rd : RegNum) : Statement (.add rs rt rd) := fieldOpcode_encodeR ..
theorem addu (rs : RegNum) (rt : RegNum) (rd : RegNum) : Statement (.addu rs rt rd) := fieldOpcode_encodeR ..
theorem sub (rs : RegNum) (rt : RegNum) (rd : RegNum) : Statement (.sub rs rt rd) := fieldOpcode_encodeR ..
theorem subu (rs : RegNum) (rt : RegNum) (rd : RegNum) : Statement (.subu rs rt rd) := fieldOpcode_encodeR ..
theorem and (rs : RegNum) (rt : RegNum) (rd : RegNum) : Statement (.and rs rt rd) := fieldOpcode_encodeR ..
theorem or (rs : RegNum) (rt : RegNum) (rd : RegNum) : Statement (.or rs rt rd) := fieldOpcode_encodeR ..
theorem xor (rs : RegNum) (rt : RegNum) (rd : RegNum) : Statement (.xor rs rt rd) := fieldOpcode_encodeR ..
theorem nor (rs : RegNum) (rt : RegNum) (rd : RegNum) : Statement (.nor rs rt rd) := fieldOpcode_encodeR ..
theorem slt (rs : RegNum) (rt : RegNum) (rd : RegNum) : Statement (.slt rs rt rd) := fieldOpcode_encodeR ..
theorem sltu (rs : RegNum) (rt : RegNum) (rd : RegNum) : Statement (.sltu rs rt rd) := fieldOpcode_encodeR ..
theorem dadd (rs : RegNum) (rt : RegNum) (rd : RegNum) : Statement (.dadd rs rt rd) := fieldOpcode_encodeR ..
theorem daddu (rs : RegNum) (rt : RegNum) (rd : RegNum) : Statement (.daddu rs rt rd) := fieldOpcode_encodeR ..
theorem dsub (rs : RegNum) (rt : RegNum) (rd : RegNum) : Statement (.dsub rs rt rd) := fieldOpcode_encodeR ..
theorem dsubu (rs : RegNum) (rt : RegNum) (rd : RegNum) : Statement (.dsubu rs rt rd) := fieldOpcode_encodeR ..
theorem sll (rt : RegNum) (rd : RegNum) (sa : Nat) : Statement (.sll rt rd sa) := fieldOpcode_encodeR ..
theorem srl (rt : RegNum) (rd : RegNum) (sa : Nat) : Statement (.srl rt rd sa) := fieldOpcode_encodeR ..
theorem sra (rt : RegNum) (rd : RegNum) (sa : Nat) : Statement (.sra rt rd sa) := fieldOpcode_encodeR ..
theorem sllv (rs : RegNum) (rt : RegNum) (rd : RegNum) : Statement (.sllv rs rt rd) := fieldOpcode_encodeR ..
theorem srlv (rs : RegNum) (rt : RegNum) (rd : RegNum) : Statement (.srlv rs rt rd) := fieldOpcode_encodeR ..
theorem srav (rs : RegNum) (rt : RegNum) (rd : RegNum) : Statement (.srav rs rt rd) := fieldOpcode_encodeR ..
theorem dsll (rt : RegNum) (rd : RegNum) (sa : Nat) : Statement (.dsll rt rd sa) := fieldOpcode_encodeR ..
theorem dsrl (rt : RegNum) (rd : RegNum) (sa : Nat) : Statement (.dsrl rt rd sa) := fieldOpcode_encodeR ..
theorem dsra (rt : RegNum) (rd : RegNum) (sa : Nat) : Statement (.dsra rt rd sa) := fieldOpcode_encodeR ..
theorem dsllv (rs : RegNum) (rt : RegNum) (rd : RegNum) : Statement (.dsllv rs rt rd) := fieldOpcode_encodeR ..
theorem dsrlv (rs : RegNum) (rt : RegNum) (rd : RegNum) : Statement (.dsrlv rs rt rd) := fieldOpcode_encodeR ..
theorem dsrav (rs : RegNum) (rt : RegNum) (rd : RegNum) : Statement (.dsrav rs rt rd) := fieldOpcode_encodeR ..
theorem dsll32 (rt : RegNum) (rd : RegNum) (sa : Nat) : Statement (.dsll32 rt rd sa) := fieldOpcode_encodeR ..
theorem dsrl32 (rt : RegNum) (rd : RegNum) (sa : Nat) : Statement (.dsrl32 rt rd sa) := fieldOpcode_encodeR ..
theorem dsra32 (rt : RegNum) (rd : RegNum) (sa : Nat) : Statement (.dsra32 rt rd sa) := fieldOpcode_encodeR ..
theorem mfhi (rd : RegNum) : Statement (.mfhi rd) := fieldOpcode_encodeR ..
theorem mthi (rs : RegNum) : Statement (.mthi rs) := fieldOpcode_encodeR ..
theorem mflo (rd : RegNum) : Statement (.mflo rd) := fieldOpcode_encodeR ..
theorem mtlo (rs : RegNum) : Statement (.mtlo rs) := fieldOpcode_encodeR ..
theorem mult (rs : RegNum) (rt : RegNum) : Statement (.mult rs rt) := fieldOpcode_encodeR ..
theorem multu (rs : RegNum) (rt : RegNum) : Statement (.multu rs rt) := fieldOpcode_encodeR ..
theorem div (rs : RegNum) (rt : RegNum) : Statement (.div rs rt) := fieldOpcode_encodeR ..
theorem divu (rs : RegNum) (rt : RegNum) : Statement (.divu rs rt) := fieldOpcode_encodeR ..
theorem dmult (rs : RegNum) (rt : RegNum) : Statement (.dmult rs rt) := fieldOpcode_encodeR ..
theorem dmultu (rs : RegNum) (rt : RegNum) : Statement (.dmultu rs rt) := fieldOpcode_encodeR ..
theorem ddiv (rs : RegNum) (rt : RegNum) : Statement (.ddiv rs rt) := fieldOpcode_encodeR ..
theorem ddivu (rs : RegNum) (rt : RegNum) : Statement (.ddivu rs rt) := fieldOpcode_encodeR ..
theorem lb (rs : RegNum) (rt : RegNum) (imm : Half) : Statement (.lb rs rt imm) := fieldOpcode_encodeI ..
theorem lbu (rs : RegNum) (rt : RegNum) (imm : Half) : Statement (.lbu rs rt imm) := fieldOpcode_encodeI ..
theorem lh (rs : RegNum) (rt : RegNum) (imm : Half) : Statement (.lh rs rt imm) := fieldOpcode_encodeI ..
theorem lhu (rs : RegNum) (rt : RegNum) (imm : Half) : Statement (.lhu rs rt imm) := fieldOpcode_encodeI ..
theorem lw (rs : RegNum) (rt : RegNum) (imm : Half) : Statement (.lw rs rt imm) := fieldOpcode_encodeI ..
theorem lwu (rs : RegNum) (rt : RegNum) (imm : Half) : Statement (.lwu rs rt imm) := fieldOpcode_encodeI ..
theorem ld (rs : RegNum) (rt : RegNum) (imm : Half) : Statement (.ld rs rt imm) := fieldOpcode_encodeI ..
theorem lwl (rs : RegNum) (rt : RegNum) (imm : Half) : Statement (.lwl rs rt imm) := fieldOpcode_encodeI ..
theorem lwr (rs : RegNum) (rt : RegNum) (imm : Half) : Statement (.lwr rs rt imm) := fieldOpcode_encodeI ..
theorem ldl (rs : RegNum) (rt : RegNum) (imm : Half) : Statement (.ldl rs rt imm) := fieldOpcode_encodeI ..
theorem ldr (rs : RegNum) (rt : RegNum) (imm : Half) : Statement (.ldr rs rt imm) := fieldOpcode_encodeI ..
theorem sb (rs : RegNum) (rt : RegNum) (imm : Half) : Statement (.sb rs rt imm) := fieldOpcode_encodeI ..
theorem sh (rs : RegNum) (rt : RegNum) (imm : Half) : Statement (.sh rs rt imm) := fieldOpcode_encodeI ..
theorem sw (rs : RegNum) (rt : RegNum) (imm : Half) : Statement (.sw rs rt imm) := fieldOpcode_encodeI ..
theorem sd (rs : RegNum) (rt : RegNum) (imm : Half) : Statement (.sd rs rt imm) := fieldOpcode_encodeI ..
theorem swl (rs : RegNum) (rt : RegNum) (imm : Half) : Statement (.swl rs rt imm) := fieldOpcode_encodeI ..
theorem swr (rs : RegNum) (rt : RegNum) (imm : Half) : Statement (.swr rs rt imm) := fieldOpcode_encodeI ..
theorem sdl (rs : RegNum) (rt : RegNum) (imm : Half) : Statement (.sdl rs rt imm) := fieldOpcode_encodeI ..
theorem sdr (rs : RegNum) (rt : RegNum) (imm : Half) : Statement (.sdr rs rt imm) := fieldOpcode_encodeI ..
theorem ll (rs : RegNum) (rt : RegNum) (imm : Half) : Statement (.ll rs rt imm) := fieldOpcode_encodeI ..
theorem lld (rs : RegNum) (rt : RegNum) (imm : Half) : Statement (.lld rs rt imm) := fieldOpcode_encodeI ..
theorem sc (rs : RegNum) (rt : RegNum) (imm : Half) : Statement (.sc rs rt imm) := fieldOpcode_encodeI ..
theorem scd (rs : RegNum) (rt : RegNum) (imm : Half) : Statement (.scd rs rt imm) := fieldOpcode_encodeI ..
theorem j (target : BitVec 26) : Statement (.j target) := fieldOpcode_encodeJ ..
theorem jal (target : BitVec 26) : Statement (.jal target) := fieldOpcode_encodeJ ..
theorem jr (rs : RegNum) : Statement (.jr rs) := fieldOpcode_encodeR ..
theorem jalr (rs : RegNum) (rd : RegNum) : Statement (.jalr rs rd) := fieldOpcode_encodeR ..
theorem beq (rs : RegNum) (rt : RegNum) (imm : Half) : Statement (.beq rs rt imm) := fieldOpcode_encodeI ..
theorem bne (rs : RegNum) (rt : RegNum) (imm : Half) : Statement (.bne rs rt imm) := fieldOpcode_encodeI ..
theorem blez (rs : RegNum) (imm : Half) : Statement (.blez rs imm) := fieldOpcode_encodeI ..
theorem bgtz (rs : RegNum) (imm : Half) : Statement (.bgtz rs imm) := fieldOpcode_encodeI ..
theorem beql (rs : RegNum) (rt : RegNum) (imm : Half) : Statement (.beql rs rt imm) := fieldOpcode_encodeI ..
theorem bnel (rs : RegNum) (rt : RegNum) (imm : Half) : Statement (.bnel rs rt imm) := fieldOpcode_encodeI ..
theorem blezl (rs : RegNum) (imm : Half) : Statement (.blezl rs imm) := fieldOpcode_encodeI ..
theorem bgtzl (rs : RegNum) (imm : Half) : Statement (.bgtzl rs imm) := fieldOpcode_encodeI ..
theorem bltz (rs : RegNum) (imm : Half) : Statement (.bltz rs imm) := fieldOpcode_encodeI ..
theorem bgez (rs : RegNum) (imm : Half) : Statement (.bgez rs imm) := fieldOpcode_encodeI ..
theorem bltzl (rs : RegNum) (imm : Half) : Statement (.bltzl rs imm) := fieldOpcode_encodeI ..
theorem bgezl (rs : RegNum) (imm : Half) : Statement (.bgezl rs imm) := fieldOpcode_encodeI ..
theorem bltzal (rs : RegNum) (imm : Half) : Statement (.bltzal rs imm) := fieldOpcode_encodeI ..
theorem bgezal (rs : RegNum) (imm : Half) : Statement (.bgezal rs imm) := fieldOpcode_encodeI ..
theorem bltzall (rs : RegNum) (imm : Half) : Statement (.bltzall rs imm) := fieldOpcode_encodeI ..
theorem bgezall (rs : RegNum) (imm : Half) : Statement (.bgezall rs imm) := fieldOpcode_encodeI ..
theorem syscall : Statement (.syscall) := fieldOpcode_encodeR ..
theorem break_ : Statement (.break_) := fieldOpcode_encodeR ..
theorem sync : Statement (.sync) := fieldOpcode_encodeR ..
theorem cache (base : RegNum) (op : Nat) (imm : Half) : Statement (.cache base op imm) := fieldOpcode_encodeI ..
theorem tge (rs : RegNum) (rt : RegNum) : Statement (.tge rs rt) := fieldOpcode_encodeR ..
theorem tgeu (rs : RegNum) (rt : RegNum) : Statement (.tgeu rs rt) := fieldOpcode_encodeR ..
theorem tlt (rs : RegNum) (rt : RegNum) : Statement (.tlt rs rt) := fieldOpcode_encodeR ..
theorem tltu (rs : RegNum) (rt : RegNum) : Statement (.tltu rs rt) := fieldOpcode_encodeR ..
theorem teq (rs : RegNum) (rt : RegNum) : Statement (.teq rs rt) := fieldOpcode_encodeR ..
theorem tne (rs : RegNum) (rt : RegNum) : Statement (.tne rs rt) := fieldOpcode_encodeR ..
theorem tgei (rs : RegNum) (imm : Half) : Statement (.tgei rs imm) := fieldOpcode_encodeI ..
theorem tgeiu (rs : RegNum) (imm : Half) : Statement (.tgeiu rs imm) := fieldOpcode_encodeI ..
theorem tlti (rs : RegNum) (imm : Half) : Statement (.tlti rs imm) := fieldOpcode_encodeI ..
theorem tltiu (rs : RegNum) (imm : Half) : Statement (.tltiu rs imm) := fieldOpcode_encodeI ..
theorem teqi (rs : RegNum) (imm : Half) : Statement (.teqi rs imm) := fieldOpcode_encodeI ..
theorem tnei (rs : RegNum) (imm : Half) : Statement (.tnei rs imm) := fieldOpcode_encodeI ..
theorem mfc0 (rt : RegNum) (rd : RegNum) : Statement (.mfc0 rt rd) := fieldOpcode_encodeR ..
theorem mtc0 (rt : RegNum) (rd : RegNum) : Statement (.mtc0 rt rd) := fieldOpcode_encodeR ..
theorem tlbr : Statement (.tlbr) := fieldOpcode_encodeR ..
theorem tlbwi : Statement (.tlbwi) := fieldOpcode_encodeR ..
theorem tlbwr : Statement (.tlbwr) := fieldOpcode_encodeR ..
theorem tlbp : Statement (.tlbp) := fieldOpcode_encodeR ..
theorem eret : Statement (.eret) := fieldOpcode_encodeR ..
theorem mfc1 (rt : RegNum) (fs : RegNum) : Statement (.mfc1 rt fs) := fieldOpcode_encodeR ..
theorem dmfc1 (rt : RegNum) (fs : RegNum) : Statement (.dmfc1 rt fs) := fieldOpcode_encodeR ..
theorem cfc1 (rt : RegNum) (fs : RegNum) : Statement (.cfc1 rt fs) := fieldOpcode_encodeR ..
theorem mtc1 (rt : RegNum) (fs : RegNum) : Statement (.mtc1 rt fs) := fieldOpcode_encodeR ..
theorem dmtc1 (rt : RegNum) (fs : RegNum) : Statement (.dmtc1 rt fs) := fieldOpcode_encodeR ..
theorem ctc1 (rt : RegNum) (fs : RegNum) : Statement (.ctc1 rt fs) := fieldOpcode_encodeR ..
theorem bc1f (imm : Half) : Statement (.bc1f imm) := fieldOpcode_encodeI ..
theorem bc1t (imm : Half) : Statement (.bc1t imm) := fieldOpcode_encodeI ..
theorem bc1fl (imm : Half) : Statement (.bc1fl imm) := fieldOpcode_encodeI ..
theorem bc1tl (imm : Half) : Statement (.bc1tl imm) := fieldOpcode_encodeI ..
theorem lwc1 (base : RegNum) (ft : RegNum) (imm : Half) : Statement (.lwc1 base ft imm) := fieldOpcode_encodeI ..
theorem ldc1 (base : RegNum) (ft : RegNum) (imm : Half) : Statement (.ldc1 base ft imm) := fieldOpcode_encodeI ..
theorem swc1 (base : RegNum) (ft : RegNum) (imm : Half) : Statement (.swc1 base ft imm) := fieldOpcode_encodeI ..
theorem sdc1 (base : RegNum) (ft : RegNum) (imm : Half) : Statement (.sdc1 base ft imm) := fieldOpcode_encodeI ..
theorem addS (ft : RegNum) (fs : RegNum) (fd : RegNum) : Statement (.addS ft fs fd) := fieldOpcode_encodeR ..
theorem addD (ft : RegNum) (fs : RegNum) (fd : RegNum) : Statement (.addD ft fs fd) := fieldOpcode_encodeR ..
theorem subS (ft : RegNum) (fs : RegNum) (fd : RegNum) : Statement (.subS ft fs fd) := fieldOpcode_encodeR ..
theorem subD (ft : RegNum) (fs : RegNum) (fd : RegNum) : Statement (.subD ft fs fd) := fieldOpcode_encodeR ..
theorem mulS (ft : RegNum) (fs : RegNum) (fd : RegNum) : Statement (.mulS ft fs fd) := fieldOpcode_encodeR ..
theorem mulD (ft : RegNum) (fs : RegNum) (fd : RegNum) : Statement (.mulD ft fs fd) := fieldOpcode_encodeR ..
theorem divS (ft : RegNum) (fs : RegNum) (fd : RegNum) : Statement (.divS ft fs fd) := fieldOpcode_encodeR ..
theorem divD (ft : RegNum) (fs : RegNum) (fd : RegNum) : Statement (.divD ft fs fd) := fieldOpcode_encodeR ..
theorem sqrtS (fs : RegNum) (fd : RegNum) : Statement (.sqrtS fs fd) := fieldOpcode_encodeR ..
theorem sqrtD (fs : RegNum) (fd : RegNum) : Statement (.sqrtD fs fd) := fieldOpcode_encodeR ..
theorem absS (fs : RegNum) (fd : RegNum) : Statement (.absS fs fd) := fieldOpcode_encodeR ..
theorem absD (fs : RegNum) (fd : RegNum) : Statement (.absD fs fd) := fieldOpcode_encodeR ..
theorem movS (fs : RegNum) (fd : RegNum) : Statement (.movS fs fd) := fieldOpcode_encodeR ..
theorem movD (fs : RegNum) (fd : RegNum) : Statement (.movD fs fd) := fieldOpcode_encodeR ..
theorem negS (fs : RegNum) (fd : RegNum) : Statement (.negS fs fd) := fieldOpcode_encodeR ..
theorem negD (fs : RegNum) (fd : RegNum) : Statement (.negD fs fd) := fieldOpcode_encodeR ..
theorem roundLS (fs : RegNum) (fd : RegNum) : Statement (.roundLS fs fd) := fieldOpcode_encodeR ..
theorem roundLD (fs : RegNum) (fd : RegNum) : Statement (.roundLD fs fd) := fieldOpcode_encodeR ..
theorem truncLS (fs : RegNum) (fd : RegNum) : Statement (.truncLS fs fd) := fieldOpcode_encodeR ..
theorem truncLD (fs : RegNum) (fd : RegNum) : Statement (.truncLD fs fd) := fieldOpcode_encodeR ..
theorem ceilLS (fs : RegNum) (fd : RegNum) : Statement (.ceilLS fs fd) := fieldOpcode_encodeR ..
theorem ceilLD (fs : RegNum) (fd : RegNum) : Statement (.ceilLD fs fd) := fieldOpcode_encodeR ..
theorem floorLS (fs : RegNum) (fd : RegNum) : Statement (.floorLS fs fd) := fieldOpcode_encodeR ..
theorem floorLD (fs : RegNum) (fd : RegNum) : Statement (.floorLD fs fd) := fieldOpcode_encodeR ..
theorem roundWS (fs : RegNum) (fd : RegNum) : Statement (.roundWS fs fd) := fieldOpcode_encodeR ..
theorem roundWD (fs : RegNum) (fd : RegNum) : Statement (.roundWD fs fd) := fieldOpcode_encodeR ..
theorem truncWS (fs : RegNum) (fd : RegNum) : Statement (.truncWS fs fd) := fieldOpcode_encodeR ..
theorem truncWD (fs : RegNum) (fd : RegNum) : Statement (.truncWD fs fd) := fieldOpcode_encodeR ..
theorem ceilWS (fs : RegNum) (fd : RegNum) : Statement (.ceilWS fs fd) := fieldOpcode_encodeR ..
theorem ceilWD (fs : RegNum) (fd : RegNum) : Statement (.ceilWD fs fd) := fieldOpcode_encodeR ..
theorem floorWS (fs : RegNum) (fd : RegNum) : Statement (.floorWS fs fd) := fieldOpcode_encodeR ..
theorem floorWD (fs : RegNum) (fd : RegNum) : Statement (.floorWD fs fd) := fieldOpcode_encodeR ..
theorem cvtSD (fs : RegNum) (fd : RegNum) : Statement (.cvtSD fs fd) := fieldOpcode_encodeR ..
theorem cvtSW (fs : RegNum) (fd : RegNum) : Statement (.cvtSW fs fd) := fieldOpcode_encodeR ..
theorem cvtSL (fs : RegNum) (fd : RegNum) : Statement (.cvtSL fs fd) := fieldOpcode_encodeR ..
theorem cvtDS (fs : RegNum) (fd : RegNum) : Statement (.cvtDS fs fd) := fieldOpcode_encodeR ..
theorem cvtDW (fs : RegNum) (fd : RegNum) : Statement (.cvtDW fs fd) := fieldOpcode_encodeR ..
theorem cvtDL (fs : RegNum) (fd : RegNum) : Statement (.cvtDL fs fd) := fieldOpcode_encodeR ..
theorem cvtWS (fs : RegNum) (fd : RegNum) : Statement (.cvtWS fs fd) := fieldOpcode_encodeR ..
theorem cvtWD (fs : RegNum) (fd : RegNum) : Statement (.cvtWD fs fd) := fieldOpcode_encodeR ..
theorem cvtLS (fs : RegNum) (fd : RegNum) : Statement (.cvtLS fs fd) := fieldOpcode_encodeR ..
theorem cvtLD (fs : RegNum) (fd : RegNum) : Statement (.cvtLD fs fd) := fieldOpcode_encodeR ..
theorem cFS (ft : RegNum) (fs : RegNum) : Statement (.cFS ft fs) := fieldOpcode_encodeR ..
theorem cFD (ft : RegNum) (fs : RegNum) : Statement (.cFD ft fs) := fieldOpcode_encodeR ..
theorem cUnS (ft : RegNum) (fs : RegNum) : Statement (.cUnS ft fs) := fieldOpcode_encodeR ..
theorem cUnD (ft : RegNum) (fs : RegNum) : Statement (.cUnD ft fs) := fieldOpcode_encodeR ..
theorem cEqS (ft : RegNum) (fs : RegNum) : Statement (.cEqS ft fs) := fieldOpcode_encodeR ..
theorem cEqD (ft : RegNum) (fs : RegNum) : Statement (.cEqD ft fs) := fieldOpcode_encodeR ..
theorem cUeqS (ft : RegNum) (fs : RegNum) : Statement (.cUeqS ft fs) := fieldOpcode_encodeR ..
theorem cUeqD (ft : RegNum) (fs : RegNum) : Statement (.cUeqD ft fs) := fieldOpcode_encodeR ..
theorem cOltS (ft : RegNum) (fs : RegNum) : Statement (.cOltS ft fs) := fieldOpcode_encodeR ..
theorem cOltD (ft : RegNum) (fs : RegNum) : Statement (.cOltD ft fs) := fieldOpcode_encodeR ..
theorem cUltS (ft : RegNum) (fs : RegNum) : Statement (.cUltS ft fs) := fieldOpcode_encodeR ..
theorem cUltD (ft : RegNum) (fs : RegNum) : Statement (.cUltD ft fs) := fieldOpcode_encodeR ..
theorem cOleS (ft : RegNum) (fs : RegNum) : Statement (.cOleS ft fs) := fieldOpcode_encodeR ..
theorem cOleD (ft : RegNum) (fs : RegNum) : Statement (.cOleD ft fs) := fieldOpcode_encodeR ..
theorem cUleS (ft : RegNum) (fs : RegNum) : Statement (.cUleS ft fs) := fieldOpcode_encodeR ..
theorem cUleD (ft : RegNum) (fs : RegNum) : Statement (.cUleD ft fs) := fieldOpcode_encodeR ..
theorem cSfS (ft : RegNum) (fs : RegNum) : Statement (.cSfS ft fs) := fieldOpcode_encodeR ..
theorem cSfD (ft : RegNum) (fs : RegNum) : Statement (.cSfD ft fs) := fieldOpcode_encodeR ..
theorem cNgleS (ft : RegNum) (fs : RegNum) : Statement (.cNgleS ft fs) := fieldOpcode_encodeR ..
theorem cNgleD (ft : RegNum) (fs : RegNum) : Statement (.cNgleD ft fs) := fieldOpcode_encodeR ..
theorem cSeqS (ft : RegNum) (fs : RegNum) : Statement (.cSeqS ft fs) := fieldOpcode_encodeR ..
theorem cSeqD (ft : RegNum) (fs : RegNum) : Statement (.cSeqD ft fs) := fieldOpcode_encodeR ..
theorem cNglS (ft : RegNum) (fs : RegNum) : Statement (.cNglS ft fs) := fieldOpcode_encodeR ..
theorem cNglD (ft : RegNum) (fs : RegNum) : Statement (.cNglD ft fs) := fieldOpcode_encodeR ..
theorem cLtS (ft : RegNum) (fs : RegNum) : Statement (.cLtS ft fs) := fieldOpcode_encodeR ..
theorem cLtD (ft : RegNum) (fs : RegNum) : Statement (.cLtD ft fs) := fieldOpcode_encodeR ..
theorem cNgeS (ft : RegNum) (fs : RegNum) : Statement (.cNgeS ft fs) := fieldOpcode_encodeR ..
theorem cNgeD (ft : RegNum) (fs : RegNum) : Statement (.cNgeD ft fs) := fieldOpcode_encodeR ..
theorem cLeS (ft : RegNum) (fs : RegNum) : Statement (.cLeS ft fs) := fieldOpcode_encodeR ..
theorem cLeD (ft : RegNum) (fs : RegNum) : Statement (.cLeD ft fs) := fieldOpcode_encodeR ..
theorem cNgtS (ft : RegNum) (fs : RegNum) : Statement (.cNgtS ft fs) := fieldOpcode_encodeR ..
theorem cNgtD (ft : RegNum) (fs : RegNum) : Statement (.cNgtD ft fs) := fieldOpcode_encodeR ..

end Sys2Proof.Laws.EncodeOpcode
end

