-- ==== Sys2Proof/Tests/Slice0.lean ====
section
/-! SUPPORT. Tests: expected values are the worked examples of the spec's instruction rules (`R<n>`) and its vectors (`V<n>`), and a
concrete state and operands that meet the hypotheses of each statement of Certificates/Slice0/Obligations.lean. The theorems are checked
one after the other: each `decide +kernel` under way holds a thread of its own. -/

set_option Elab.async false

namespace Sys2Proof.Tests

open Sys2Proof.Machine

/-! ### Helpers -/

/-- The word decodes to the instruction. -/
def decodesTo (p : Word × Instr) : Bool :=
  match decodeWord p.1 with
  | .ok i => decide (i = p.2)
  | .error _ => false

/-- The word is no instruction. -/
def isReserved (w : Word) : Bool :=
  match decodeWord w with
  | .ok _ => false
  | .error _ => true

/-- The result is a next state with this property. -/
def nextIs (r : Result) (p : State → Bool) : Bool :=
  match r with
  | .next t => p t
  | _ => false

/-- The result halts for this cause. -/
def haltsWith (r : Result) (c : HaltCause) : Bool :=
  match r with
  | .fault (.halt d) => decide (d = c)
  | _ => false

/-- The result refuses for this reason. -/
def refusesWith (r : Result) (c : Refusal) : Bool :=
  match r with
  | .refused d => decide (d = c)
  | _ => false

/-- Kernel mode, COP1 usable, FR = 1, at the address of the spec's examples. -/
def base : State :=
  { State.reset with
    pc := 0x80000400#32, npc := 0x80000404#32, cp0 := { Cop0.reset with status := 0x34000000#32 } }

/-- `base` with this Status. -/
def withStatus (w : Word) : State := { base with cp0 := { base.cp0 with status := w } }

/-- User mode without COP0 and COP1. -/
def user : State := withStatus 0x00000010#32

/-- Write registers, in order. -/
def setRegs (s : State) (l : List (RegNum × Dword)) : State := l.foldl (fun t p => t.writeX p.1 p.2) s

/-- Place bytes at a physical address. -/
def setBytes (s : State) (a : Nat) : List Byte → State
  | [] => s
  | b :: bs => setBytes { s with mem := s.mem.writeByte a b } (a + 1) bs

/-- The bytes at a physical address. -/
def bytesAt (s : State) (a n : Nat) : List Byte := (List.range n).map (fun k => s.mem.readByte (a + k))

/-- The memory and base register of the examples of 42_loadstore.md. -/
def loadBase : State :=
  setRegs (setBytes base 0x1000 [0x80, 0x81, 0x82, 0x83, 0x84, 0x85, 0x86, 0x87])
    [(1, 0xFFFFFFFF80001000), (2, 0x1122334455667788)]

/-- Memory filled with EE under the stores of 42_loadstore.md. -/
def storeBase : State :=
  setRegs (setBytes base 0x1000 (List.replicate 8 0xEE)) [(1, 0xFFFFFFFF80001000), (2, 0x1122334455667788)]

/-- The TLB entry of the example of R363. -/
def entry3 : TlbEntry :=
  { mask := 0, vpn2 := 0x00008, asid := 0x05, global := false, even := ⟨0x000100, 2, true, true⟩, odd := ⟨0x000101, 2, false, true⟩ }

/-- `base` with the entry of R363 in slot 3 and the COP0 registers that describe it. -/
def tlbBase : State :=
  { base with
    tlb := base.tlb.set 3 entry3
    cp0 := { base.cp0 with index := 3, entryHi := 0x00010005, entryLo0 := 0x00004016, entryLo1 := 0x00004052 } }

/-- A row: registers, instruction, register read, its value. -/
abbrev RegRow := List (RegNum × Dword) × Instr × RegNum × Dword

/-- The instruction completes and the register has the value. -/
def givesReg (s : State) (r : RegRow) : Bool := nextIs (exec r.2.1 (setRegs s r.1)) (fun t => t.readX r.2.2.1 == r.2.2.2)

/-! ### Well-formedness refuses what no encoding holds -/

theorem test_wf_shift_amount_too_big :
    [Instr.sll 1 2 32, .srl 1 2 32, .sra 1 2 32, .dsll 1 2 32, .dsrl 1 2 32, .dsra 1 2 32, .dsll32 1 2 32, .dsrl32 1 2 32,
      .dsra32 1 2 32].all (fun i => !i.wellFormed) = true := by decide

theorem test_wf_cache_operation_too_big : (Instr.cache 1 32 0).wellFormed = false := by decide

theorem test_wf_largest_fields :
    [Instr.sll 31 31 31, .dsra32 31 31 31, .cache 31 31 0xFFFF, .j 0x3FFFFFF].all Instr.wellFormed = true := by decide

/-! ### Decoding, each word the spec's encoding of its rule's worked example -/

/-- 40_integer_alu.md, R203 to R222. -/
theorem test_decode_IntAlu_1 :
    [
      (0x2022FFFF#32, Instr.addi 1 2 0xFFFF), (0x24220001#32, .addiu 1 2 0x1), (0x28220000#32, .slti 1 2 0x0),
      (0x2C22FFFF#32, .sltiu 1 2 0xFFFF), (0x3022FF00#32, .andi 1 2 0xFF00), (0x3422FF00#32, .ori 1 2 0xFF00),
      (0x3822FF00#32, .xori 1 2 0xFF00), (0x3C028000#32, .lui 2 0x8000), (0x6022FFFF#32, .daddi 1 2 0xFFFF),
      (0x64220001#32, .daddiu 1 2 0x1), (0x00221820#32, .add 1 2 3), (0x00221821#32, .addu 1 2 3), (0x00221822#32, .sub 1 2 3),
      (0x00021823#32, .subu 0 2 3), (0x00221824#32, .and 1 2 3), (0x00221825#32, .or 1 2 3), (0x00221826#32, .xor 1 2 3),
      (0x00221827#32, .nor 1 2 3), (0x0022182A#32, .slt 1 2 3), (0x0022182B#32, .sltu 1 2 3)].all decodesTo = true := by decide +kernel

/-- 40_integer_alu.md, R223 to R241. -/
theorem test_decode_IntAlu_2 :
    [
      (0x0022182C#32, Instr.dadd 1 2 3), (0x0022182D#32, .daddu 1 2 3), (0x0022182E#32, .dsub 1 2 3),
      (0x0002182F#32, .dsubu 0 2 3), (0x00021900#32, .sll 2 3 4), (0x00021902#32, .srl 2 3 4), (0x00021903#32, .sra 2 3 4),
      (0x00221804#32, .sllv 1 2 3), (0x00221806#32, .srlv 1 2 3), (0x00221807#32, .srav 1 2 3), (0x00021938#32, .dsll 2 3 4),
      (0x0002193A#32, .dsrl 2 3 4), (0x0002193B#32, .dsra 2 3 4), (0x00221814#32, .dsllv 1 2 3), (0x00221816#32, .dsrlv 1 2 3),
      (0x00221817#32, .dsrav 1 2 3), (0x0002183C#32, .dsll32 2 3 0), (0x0002183E#32, .dsrl32 2 3 0),
      (0x0002183F#32, .dsra32 2 3 0)].all decodesTo = true := by decide +kernel

/-- 41_muldiv.md, R253 to R264. -/
theorem test_decode_MulDiv :
    [
      (0x00001810#32, Instr.mfhi 3), (0x00200011#32, .mthi 1), (0x00001812#32, .mflo 3), (0x00200013#32, .mtlo 1),
      (0x00220018#32, .mult 1 2), (0x00220019#32, .multu 1 2), (0x0022001A#32, .div 1 2), (0x0022001B#32, .divu 1 2),
      (0x0022001C#32, .dmult 1 2), (0x0022001D#32, .dmultu 1 2), (0x0022001E#32, .ddiv 1 2), (0x0022001F#32, .ddivu 1 2)].all decodesTo = true := by decide +kernel

/-- 42_loadstore.md, R271 to R290. -/
theorem test_decode_LoadStore_1 :
    [
      (0x80220001#32, Instr.lb 1 2 0x1), (0x90220001#32, .lbu 1 2 0x1), (0x84220002#32, .lh 1 2 0x2),
      (0x94220002#32, .lhu 1 2 0x2), (0x8C220004#32, .lw 1 2 0x4), (0x9C220004#32, .lwu 1 2 0x4), (0xDC220000#32, .ld 1 2 0x0),
      (0x88220001#32, .lwl 1 2 0x1), (0x98220001#32, .lwr 1 2 0x1), (0x68220003#32, .ldl 1 2 0x3), (0x6C220003#32, .ldr 1 2 0x3),
      (0xA0220001#32, .sb 1 2 0x1), (0xA4220002#32, .sh 1 2 0x2), (0xAC220004#32, .sw 1 2 0x4), (0xFC220000#32, .sd 1 2 0x0),
      (0xA8220001#32, .swl 1 2 0x1), (0xB8220001#32, .swr 1 2 0x1), (0xB0220003#32, .sdl 1 2 0x3), (0xB4220003#32, .sdr 1 2 0x3),
      (0xC0220004#32, .ll 1 2 0x4)].all decodesTo = true := by decide +kernel

/-- 42_loadstore.md, R291 to R293. -/
theorem test_decode_LoadStore_2 :
    [
      (0xD0220000#32, Instr.lld 1 2 0x0), (0xE0220004#32, .sc 1 2 0x4), (0xF0220000#32, .scd 1 2 0x0)].all decodesTo = true := by decide +kernel

/-- 43_branch_jump.md, R314 to R333. -/
theorem test_decode_Branch :
    [
      (0x08000400#32, Instr.j 0x400), (0x0C000400#32, .jal 0x400), (0x03E00008#32, .jr 31), (0x0080F809#32, .jalr 4 31),
      (0x10220003#32, .beq 1 2 0x3), (0x14220003#32, .bne 1 2 0x3), (0x18200003#32, .blez 1 0x3), (0x1C200003#32, .bgtz 1 0x3),
      (0x50220003#32, .beql 1 2 0x3), (0x54220003#32, .bnel 1 2 0x3), (0x58200003#32, .blezl 1 0x3),
      (0x5C200003#32, .bgtzl 1 0x3), (0x04200003#32, .bltz 1 0x3), (0x04210003#32, .bgez 1 0x3), (0x04220003#32, .bltzl 1 0x3),
      (0x04230003#32, .bgezl 1 0x3), (0x04300003#32, .bltzal 1 0x3), (0x04310003#32, .bgezal 1 0x3),
      (0x04320003#32, .bltzall 1 0x3), (0x04330003#32, .bgezall 1 0x3)].all decodesTo = true := by decide +kernel

/-- 44_trap_system.md, R340 to R355. -/
theorem test_decode_TrapSystem :
    [
      (0x0000000C#32, Instr.syscall), (0x0000000D#32, .break_), (0x0000000F#32, .sync), (0xBC940000#32, .cache 4 20 0x0),
      (0x00220030#32, .tge 1 2), (0x00220031#32, .tgeu 1 2), (0x00220032#32, .tlt 1 2), (0x00220033#32, .tltu 1 2),
      (0x00220034#32, .teq 1 2), (0x00220036#32, .tne 1 2), (0x0428FFFF#32, .tgei 1 0xFFFF), (0x0429FFFF#32, .tgeiu 1 0xFFFF),
      (0x042AFFFF#32, .tlti 1 0xFFFF), (0x042BFFFF#32, .tltiu 1 0xFFFF), (0x042CFFFF#32, .teqi 1 0xFFFF),
      (0x042EFFFF#32, .tnei 1 0xFFFF)].all decodesTo = true := by decide +kernel

/-- 45_cop0.md, R361 to R368. -/
theorem test_decode_Cop0 :
    [
      (0x40026000#32, Instr.mfc0 2 12), (0x40825800#32, .mtc0 2 11), (0x42000001#32, .tlbr), (0x42000002#32, .tlbwi),
      (0x42000006#32, .tlbwr), (0x42000008#32, .tlbp), (0x42000018#32, .eret)].all decodesTo = true := by decide +kernel

/-- 46_cop1_move_branch.md, R401 to R414. -/
theorem test_decode_Cop1Move :
    [
      (0x44022000#32, Instr.mfc1 2 4), (0x44222000#32, .dmfc1 2 4), (0x4442F800#32, .cfc1 2 31), (0x44822000#32, .mtc1 2 4),
      (0x44A22000#32, .dmtc1 2 4), (0x44C2F800#32, .ctc1 2 31), (0x45000003#32, .bc1f 0x3), (0x45010003#32, .bc1t 0x3),
      (0x45020003#32, .bc1fl 0x3), (0x45030003#32, .bc1tl 0x3), (0xC4240000#32, .lwc1 1 4 0x0), (0xD4240000#32, .ldc1 1 4 0x0),
      (0xE4240000#32, .swc1 1 4 0x0), (0xF4240000#32, .sdc1 1 4 0x0)].all decodesTo = true := by decide +kernel

/-- 47_cop1_arith.md, R424 to R439. -/
theorem test_decode_Cop1Arith :
    [
      (0x46022180#32, Instr.addS 2 4 6), (0x46222180#32, .addD 2 4 6), (0x46022181#32, .subS 2 4 6),
      (0x46222181#32, .subD 2 4 6), (0x46022182#32, .mulS 2 4 6), (0x46222182#32, .mulD 2 4 6), (0x46022183#32, .divS 2 4 6),
      (0x46222183#32, .divD 2 4 6), (0x46002184#32, .sqrtS 4 6), (0x46202184#32, .sqrtD 4 6), (0x46002185#32, .absS 4 6),
      (0x46202185#32, .absD 4 6), (0x46002186#32, .movS 4 6), (0x46202186#32, .movD 4 6), (0x46002187#32, .negS 4 6),
      (0x46202187#32, .negD 4 6)].all decodesTo = true := by decide +kernel

/-- 48_cop1_convert_compare.md, R455 to R474. -/
theorem test_decode_Cop1Convert_1 :
    [
      (0x46002188#32, Instr.roundLS 4 6), (0x46202188#32, .roundLD 4 6), (0x46002189#32, .truncLS 4 6),
      (0x46202189#32, .truncLD 4 6), (0x4600218A#32, .ceilLS 4 6), (0x4620218A#32, .ceilLD 4 6), (0x4600218B#32, .floorLS 4 6),
      (0x4620218B#32, .floorLD 4 6), (0x4600218C#32, .roundWS 4 6), (0x4620218C#32, .roundWD 4 6), (0x4600218D#32, .truncWS 4 6),
      (0x4620218D#32, .truncWD 4 6), (0x4600218E#32, .ceilWS 4 6), (0x4620218E#32, .ceilWD 4 6), (0x4600218F#32, .floorWS 4 6),
      (0x4620218F#32, .floorWD 4 6), (0x462021A0#32, .cvtSD 4 6), (0x468021A0#32, .cvtSW 4 6), (0x46A021A0#32, .cvtSL 4 6),
      (0x460021A1#32, .cvtDS 4 6)].all decodesTo = true := by decide +kernel

/-- 48_cop1_convert_compare.md, R475 to R480. -/
theorem test_decode_Cop1Convert_2 :
    [
      (0x468021A1#32, Instr.cvtDW 4 6), (0x46A021A1#32, .cvtDL 4 6), (0x460021A4#32, .cvtWS 4 6), (0x462021A4#32, .cvtWD 4 6),
      (0x460021A5#32, .cvtLS 4 6), (0x462021A5#32, .cvtLD 4 6)].all decodesTo = true := by decide +kernel

/-- 49_cop1_compare.md, R481 to R500. -/
theorem test_decode_Cop1Compare_1 :
    [
      (0x46022030#32, Instr.cFS 2 4), (0x46222030#32, .cFD 2 4), (0x46022031#32, .cUnS 2 4), (0x46222031#32, .cUnD 2 4),
      (0x46022032#32, .cEqS 2 4), (0x46222032#32, .cEqD 2 4), (0x46022033#32, .cUeqS 2 4), (0x46222033#32, .cUeqD 2 4),
      (0x46022034#32, .cOltS 2 4), (0x46222034#32, .cOltD 2 4), (0x46022035#32, .cUltS 2 4), (0x46222035#32, .cUltD 2 4),
      (0x46022036#32, .cOleS 2 4), (0x46222036#32, .cOleD 2 4), (0x46022037#32, .cUleS 2 4), (0x46222037#32, .cUleD 2 4),
      (0x46022038#32, .cSfS 2 4), (0x46222038#32, .cSfD 2 4), (0x46022039#32, .cNgleS 2 4), (0x46222039#32, .cNgleD 2 4)].all decodesTo = true := by decide +kernel

/-- 49_cop1_compare.md, R501 to R512. -/
theorem test_decode_Cop1Compare_2 :
    [
      (0x4602203A#32, Instr.cSeqS 2 4), (0x4622203A#32, .cSeqD 2 4), (0x4602203B#32, .cNglS 2 4), (0x4622203B#32, .cNglD 2 4),
      (0x4602203C#32, .cLtS 2 4), (0x4622203C#32, .cLtD 2 4), (0x4602203D#32, .cNgeS 2 4), (0x4622203D#32, .cNgeD 2 4),
      (0x4602203E#32, .cLeS 2 4), (0x4622203E#32, .cLeD 2 4), (0x4602203F#32, .cNgtS 2 4), (0x4622203F#32, .cNgtD 2 4)].all decodesTo = true := by decide +kernel

/-- Ignored fields are ignored (R148): SLL with rs = 31, SYNC with a type, SYSCALL with a code. -/
theorem test_decode_ignored_fields :
    [(0x03E21900#32, Instr.sll 2 3 4), (0x000007CF#32, .sync), (0x03FFFFCC#32, .syscall), (0x421FFFD8#32, .eret)].all decodesTo =
      true := by decide +kernel

/-- Words of the list of R150, one in each line of it. -/
theorem test_decode_reserved :
    [0x48000000#32, 0xCC000000#32, 0x00000001#32, 0x0000003D#32, 0x04040000#32, 0x041F0000#32, 0x40200000#32, 0x42000003#32,
      0x44600000#32, 0x45040000#32, 0x46000010#32, 0x46000020#32, 0x46200021#32, 0x46800022#32, 0x46A0003F#32].all isReserved =
      true := by decide +kernel

/-! ### Meanings -/

/-- R203 to R206, R211, R212. -/
theorem test_immediate_arithmetic :
    ([
      ([(1, 0x0000000000000005)], Instr.addi 1 2 0xFFFF, 2, 0x0000000000000004),
      ([(1, 0x000000007FFFFFFF)], .addiu 1 2 0x1, 2, 0xFFFFFFFF80000000),
      ([(1, 0xFFFFFFFFFFFFFFFF)], .slti 1 2 0x0, 2, 0x0000000000000001),
      ([(1, 0x0000000000000005)], .sltiu 1 2 0xFFFF, 2, 0x0000000000000001),
      ([(1, 0x0000000100000000)], .daddi 1 2 0xFFFF, 2, 0x00000000FFFFFFFF),
      ([(1, 0x7FFFFFFFFFFFFFFF)], .daddiu 1 2 0x1, 2, 0x8000000000000000)] : List RegRow).all (givesReg base) = true := by decide +kernel

/-- R207 to R210. -/
theorem test_immediate_logic :
    ([
      ([(1, 0xFFFFFFFF8000F0F0)], Instr.andi 1 2 0xFF00, 2, 0x000000000000F000),
      ([(1, 0xFFFFFFFF8000F0F0)], .ori 1 2 0xFF00, 2, 0xFFFFFFFF8000FFF0),
      ([(1, 0xFFFFFFFF8000F0F0)], .xori 1 2 0xFF00, 2, 0xFFFFFFFF80000FF0),
      ([], .lui 2 0x8000, 2, 0xFFFFFFFF80000000)] : List RegRow).all (givesReg base) = true := by decide +kernel

/-- R213 to R216. -/
theorem test_word_arithmetic :
    ([
      ([(1, 0x0000000000000002), (2, 0xFFFFFFFFFFFFFFFF)], Instr.add 1 2 3, 3, 0x0000000000000001),
      ([(1, 0x000000007FFFFFFF), (2, 0x0000000000000001)], .addu 1 2 3, 3, 0xFFFFFFFF80000000),
      ([(1, 0x0000000000000005), (2, 0x0000000000000007)], .sub 1 2 3, 3, 0xFFFFFFFFFFFFFFFE),
      ([(2, 0xFFFFFFFF80000000)], .subu 0 2 3, 3, 0xFFFFFFFF80000000)] : List RegRow).all (givesReg base) = true := by decide +kernel

/-- R217 to R222. -/
theorem test_register_logic :
    ([
      ([(1, 0x00000000FFFF0000), (2, 0xFFFFFFFF00FF00FF)], Instr.and 1 2 3, 3, 0x0000000000FF0000),
      ([(1, 0x00000000FFFF0000), (2, 0xFFFFFFFF00FF00FF)], .or 1 2 3, 3, 0xFFFFFFFFFFFF00FF),
      ([(1, 0x00000000FFFF0000), (2, 0xFFFFFFFF00FF00FF)], .xor 1 2 3, 3, 0xFFFFFFFFFF0000FF),
      ([(1, 0x00000000FFFF0000), (2, 0xFFFFFFFF00FF00FF)], .nor 1 2 3, 3, 0x000000000000FF00),
      ([(1, 0xFFFFFFFFFFFFFFFF), (2, 0x0000000000000000)], .slt 1 2 3, 3, 0x0000000000000001),
      ([(1, 0xFFFFFFFFFFFFFFFF), (2, 0x0000000000000000)], .sltu 1 2 3, 3, 0x0000000000000000)] : List RegRow).all (givesReg base) = true := by decide +kernel

/-- R223 to R226. -/
theorem test_doubleword_arithmetic :
    ([
      ([(1, 0x00000000FFFFFFFF), (2, 0x0000000000000001)], Instr.dadd 1 2 3, 3, 0x0000000100000000),
      ([(1, 0xFFFFFFFFFFFFFFFF), (2, 0x0000000000000001)], .daddu 1 2 3, 3, 0x0000000000000000),
      ([(1, 0x0000000100000000), (2, 0x0000000000000001)], .dsub 1 2 3, 3, 0x00000000FFFFFFFF),
      ([(2, 0x0000000000000001)], .dsubu 0 2 3, 3, 0xFFFFFFFFFFFFFFFF)] : List RegRow).all (givesReg base) = true := by decide +kernel

/-- R227 to R232. -/
theorem test_word_shifts :
    ([
      ([(2, 0x0000000008000001)], Instr.sll 2 3 4, 3, 0xFFFFFFFF80000010),
      ([(2, 0xFFFFFFFF80000001)], .srl 2 3 4, 3, 0x0000000008000000),
      ([(2, 0xFFFFFFFF80000001)], .sra 2 3 4, 3, 0xFFFFFFFFF8000000),
      ([(2, 0xFFFFFFFF80000001), (1, 0x0000000000000021)], .sllv 1 2 3, 3, 0x0000000000000002),
      ([(2, 0xFFFFFFFF80000001), (1, 0x0000000000000021)], .srlv 1 2 3, 3, 0x0000000040000000),
      ([(2, 0xFFFFFFFF80000001), (1, 0x0000000000000021)], .srav 1 2 3, 3, 0xFFFFFFFFC0000000)] : List RegRow).all (givesReg base) = true := by decide +kernel

/-- R233 to R241. -/
theorem test_doubleword_shifts :
    ([
      ([(2, 0x8000000000000010)], Instr.dsll 2 3 4, 3, 0x0000000000000100),
      ([(2, 0x8000000000000010)], .dsrl 2 3 4, 3, 0x0800000000000001),
      ([(2, 0x8000000000000010)], .dsra 2 3 4, 3, 0xF800000000000001),
      ([(2, 0x8000000000000010), (1, 0x0000000000000044)], .dsllv 1 2 3, 3, 0x0000000000000100),
      ([(2, 0x8000000000000010), (1, 0x0000000000000044)], .dsrlv 1 2 3, 3, 0x0800000000000001),
      ([(2, 0x8000000000000010), (1, 0x0000000000000044)], .dsrav 1 2 3, 3, 0xF800000000000001),
      ([(2, 0x8000000000000010)], .dsll32 2 3 0, 3, 0x0000001000000000),
      ([(2, 0x8000000000000010)], .dsrl32 2 3 0, 3, 0x0000000080000000),
      ([(2, 0x8000000000000010)], .dsra32 2 3 0, 3, 0xFFFFFFFF80000000)] : List RegRow).all (givesReg base) = true := by decide +kernel

/-- R203, R211, R213, R215, R223, R225: the exact result does not fit, IntegerOverflow (code 12) is raised and register 3 keeps its value. -/
theorem test_overflow_raises :
    [Instr.addi 1 3 1, .add 1 4 3, .sub 2 4 3, .daddi 5 3 1, .dadd 5 4 3, .dsub 6 4 3].all (fun i =>
      nextIs (exec i (setRegs base [(1, 0x7FFFFFFF), (2, 0xFFFFFFFF80000000), (3, 9), (4, 1), (5, 0x7FFFFFFFFFFFFFFF),
          (6, 0x8000000000000000)]))
        (fun t => t.readX 3 == 9 && t.cp0.cause == 0x30#32 && t.cp0.epc == 0x80000400#32 && t.pc == 0x80000180#32)) = true := by
  decide +kernel

/-- R22: a write of register 0 is dropped. -/
theorem test_register_zero_stays :
    givesReg base ([(1, 7)], .addiu 1 0 1, 0, 0) = true := by decide +kernel

/-- R253 to R256. -/
theorem test_hi_lo_moves :
    (nextIs (exec (.mfhi 3) { base with hi := 7 }) (fun t => t.readX 3 == 7) &&
      nextIs (exec (.mthi 1) (setRegs base [(1, 0x123456789ABCDEF0)])) (fun t => t.hi == 0x123456789ABCDEF0#64) &&
      nextIs (exec (.mflo 3) { base with lo := 0xFFFFFFFFFFFFFFFE }) (fun t => t.readX 3 == 0xFFFFFFFFFFFFFFFE#64) &&
      nextIs (exec (.mtlo 1) (setRegs base [(1, 9)])) (fun t => t.lo == 9)) = true := by decide +kernel

/-- R257 to R264: source registers, then lo and hi. -/
theorem test_multiply_divide :
    ([
      (Instr.mult 1 2, 0xFFFFFFFFFFFFFFFE, 0x0000000000000003, 0xFFFFFFFFFFFFFFFA, 0xFFFFFFFFFFFFFFFF),
      (.multu 1 2, 0xFFFFFFFFFFFFFFFF, 0xFFFFFFFFFFFFFFFF, 0x0000000000000001, 0xFFFFFFFFFFFFFFFE),
      (.div 1 2, 0xFFFFFFFFFFFFFFF9, 0x0000000000000002, 0xFFFFFFFFFFFFFFFD, 0xFFFFFFFFFFFFFFFF),
      (.divu 1 2, 0xFFFFFFFFFFFFFFF9, 0x0000000000000002, 0x000000007FFFFFFC, 0x0000000000000001),
      (.dmult 1 2, 0xFFFFFFFFFFFFFFFE, 0x0000000000000003, 0xFFFFFFFFFFFFFFFA, 0xFFFFFFFFFFFFFFFF),
      (.dmultu 1 2, 0xFFFFFFFFFFFFFFFE, 0x0000000000000003, 0xFFFFFFFFFFFFFFFA, 0x0000000000000002),
      (.ddiv 1 2, 0xFFFFFFFFFFFFFFF9, 0x0000000000000002, 0xFFFFFFFFFFFFFFFD, 0xFFFFFFFFFFFFFFFF),
      (.ddivu 1 2, 0xFFFFFFFFFFFFFFF9, 0x0000000000000002, 0x7FFFFFFFFFFFFFFC, 0x0000000000000001)] : List (Instr × Dword × Dword × Dword × Dword)).all (fun r =>
      nextIs (exec r.1 (setRegs base [(1, r.2.1), (2, r.2.2.1)])) (fun t => t.lo == r.2.2.2.1 && t.hi == r.2.2.2.2)) = true := by
  decide +kernel

/-- R252: the quotient that does not fit. -/
theorem test_divide_minimum_by_minus_one :
    (nextIs (exec (.div 1 2) (setRegs base [(1, 0x80000000), (2, 0xFFFFFFFF)]))
        (fun t => t.lo == 0xFFFFFFFF80000000#64 && t.hi == 0) &&
      nextIs (exec (.ddiv 1 2) (setRegs base [(1, 0x8000000000000000), (2, 0xFFFFFFFFFFFFFFFF)]))
        (fun t => t.lo == 0x8000000000000000#64 && t.hi == 0)) = true := by decide +kernel

/-- R271 to R277. -/
theorem test_aligned_loads :
    ([
      ([], Instr.lb 1 2 0x1, 2, 0xFFFFFFFFFFFFFF81),
      ([], .lbu 1 2 0x1, 2, 0x0000000000000081),
      ([], .lh 1 2 0x2, 2, 0xFFFFFFFFFFFF8283),
      ([], .lhu 1 2 0x2, 2, 0x0000000000008283),
      ([], .lw 1 2 0x4, 2, 0xFFFFFFFF84858687),
      ([], .lwu 1 2 0x4, 2, 0x0000000084858687),
      ([], .ld 1 2 0x0, 2, 0x8081828384858687)] : List RegRow).all (givesReg loadBase) = true := by decide +kernel

/-- R278 to R281. -/
theorem test_unaligned_loads :
    ([
      ([], Instr.lwl 1 2 0x1, 2, 0xFFFFFFFF81828388),
      ([], .lwr 1 2 0x1, 2, 0x0000000055668081),
      ([], .ldl 1 2 0x3, 2, 0x8384858687667788),
      ([], .ldr 1 2 0x3, 2, 0x1122334480818283)] : List RegRow).all (givesReg loadBase) = true := by decide +kernel

/-- R290, R291: the value of LW and LD, and LLbit. -/
theorem test_load_linked :
    (nextIs (exec (.ll 1 2 4) loadBase) (fun t => t.readX 2 == 0xFFFFFFFF84858687#64 && t.llbit) &&
      nextIs (exec (.lld 1 2 0) loadBase) (fun t => t.readX 2 == 0x8081828384858687#64 && t.llbit)) = true := by decide +kernel

/-- R282 to R289: the doubleword after each store over EE. -/
theorem test_stores :
    ([
      (Instr.sb 1 2 0x1, [0xEE, 0x88, 0xEE, 0xEE, 0xEE, 0xEE, 0xEE, 0xEE]),
      (.sh 1 2 0x2, [0xEE, 0xEE, 0x77, 0x88, 0xEE, 0xEE, 0xEE, 0xEE]),
      (.sw 1 2 0x4, [0xEE, 0xEE, 0xEE, 0xEE, 0x55, 0x66, 0x77, 0x88]),
      (.sd 1 2 0x0, [0x11, 0x22, 0x33, 0x44, 0x55, 0x66, 0x77, 0x88]),
      (.swl 1 2 0x1, [0xEE, 0x55, 0x66, 0x77, 0xEE, 0xEE, 0xEE, 0xEE]),
      (.swr 1 2 0x1, [0x77, 0x88, 0xEE, 0xEE, 0xEE, 0xEE, 0xEE, 0xEE]),
      (.sdl 1 2 0x3, [0xEE, 0xEE, 0xEE, 0x11, 0x22, 0x33, 0x44, 0x55]),
      (.sdr 1 2 0x3, [0x55, 0x66, 0x77, 0x88, 0xEE, 0xEE, 0xEE, 0xEE])] : List (Instr × List Byte)).all (fun r =>
      nextIs (exec r.1 storeBase) (fun t => bytesAt t 0x1000 8 == r.2 && t.mem.wf)) = true := by decide +kernel

/-- R292, R293 with LLbit = 1: the store happens, the register takes 1, LLbit is cleared. -/
theorem test_store_conditional_succeeds :
    (nextIs (exec (.sc 1 2 4) (setRegs { storeBase with llbit := true } [(2, 9)]))
        (fun t => bytesAt t 0x1004 4 == [0, 0, 0, 9] && t.readX 2 == 1 && !t.llbit) &&
      nextIs (exec (.scd 1 2 0) { storeBase with llbit := true })
        (fun t => bytesAt t 0x1000 8 == [0x11, 0x22, 0x33, 0x44, 0x55, 0x66, 0x77, 0x88] && t.readX 2 == 1 && !t.llbit)) = true := by
  decide +kernel

/-- R292, R293 with LLbit = 0: no store, the register takes 0. -/
theorem test_store_conditional_fails :
    [Instr.sc 1 2 4, .scd 1 2 0].all (fun i =>
      nextIs (exec i storeBase) (fun t => bytesAt t 0x1000 8 == List.replicate 8 0xEE && t.readX 2 == 0)) = true := by
  decide +kernel

/-- R314 to R317: from 0x80000400 the delay slot, then the target; the link of JAL and JALR. -/
theorem test_jumps :
    ([
      (Instr.j 0x400, 0x80001000, 0), (.jal 0x400, 0x80001000, 0xFFFFFFFF80000408), (.jr 4, 0x80002000, 0),
      (.jalr 4 31, 0x80002000, 0xFFFFFFFF80000408)] : List (Instr × Word × Dword)).all (fun r =>
      nextIs (exec r.1 (setRegs base [(4, 0xFFFFFFFF80002000)]))
        (fun t => t.pc == 0x80000404#32 && t.npc == r.2.1 && t.ds && t.readX 31 == r.2.2)) = true := by decide +kernel

/-- R318 to R329, each rule's example: sources, then pc, npc, ds. -/
theorem test_branches :
    ([
      (Instr.beq 1 2 0x3, 7, 7, 0x80000404, 0x80000410, true),
      (.bne 1 2 0x3, 0xFFFFFFFF, 0xFFFFFFFFFFFFFFFF, 0x80000404, 0x80000410, true),
      (.blez 1 0x3, 0, 0, 0x80000404, 0x80000410, true),
      (.bgtz 1 0x3, 0, 0, 0x80000404, 0x80000408, true),
      (.beql 1 2 0x3, 1, 2, 0x80000408, 0x8000040C, false),
      (.bnel 1 2 0x3, 1, 2, 0x80000404, 0x80000410, true),
      (.blezl 1 0x3, 1, 0, 0x80000408, 0x8000040C, false),
      (.bgtzl 1 0x3, 1, 0, 0x80000404, 0x80000410, true),
      (.bltz 1 0x3, 0x8000000000000000, 0, 0x80000404, 0x80000410, true),
      (.bgez 1 0x3, 0x80000000, 0, 0x80000404, 0x80000410, true),
      (.bltzl 1 0x3, 0, 0, 0x80000408, 0x8000040C, false),
      (.bgezl 1 0x3, 0, 0, 0x80000404, 0x80000410, true)] : List (Instr × Dword × Dword × Word × Word × Bool)).all (fun r =>
      nextIs (exec r.1 (setRegs base [(1, r.2.1), (2, r.2.2.1)]))
        (fun t => t.pc == r.2.2.2.1 && t.npc == r.2.2.2.2.1 && t.ds == r.2.2.2.2.2)) = true := by decide +kernel

/-- R318 to R329, the other outcome (R312, R313). -/
theorem test_branches_otherwise :
    ([
      (Instr.beq 1 2 0x3, 7, 8, 0x80000404, 0x80000408, true),
      (.bne 1 2 0x3, 7, 7, 0x80000404, 0x80000408, true),
      (.blez 1 0x3, 1, 0, 0x80000404, 0x80000408, true),
      (.bgtz 1 0x3, 1, 0, 0x80000404, 0x80000410, true),
      (.beql 1 2 0x3, 7, 7, 0x80000404, 0x80000410, true),
      (.bnel 1 2 0x3, 7, 7, 0x80000408, 0x8000040C, false),
      (.blezl 1 0x3, 0xFFFFFFFFFFFFFFFF, 0, 0x80000404, 0x80000410, true),
      (.bgtzl 1 0x3, 0, 0, 0x80000408, 0x8000040C, false),
      (.bltz 1 0x3, 0, 0, 0x80000404, 0x80000408, true),
      (.bgez 1 0x3, 0xFFFFFFFFFFFFFFFF, 0, 0x80000404, 0x80000408, true),
      (.bltzl 1 0x3, 0xFFFFFFFFFFFFFFFF, 0, 0x80000404, 0x80000410, true),
      (.bgezl 1 0x3, 0xFFFFFFFFFFFFFFFF, 0, 0x80000408, 0x8000040C, false)] : List (Instr × Dword × Dword × Word × Word × Bool)).all (fun r =>
      nextIs (exec r.1 (setRegs base [(1, r.2.1), (2, r.2.2.1)]))
        (fun t => t.pc == r.2.2.2.1 && t.npc == r.2.2.2.2.1 && t.ds == r.2.2.2.2.2)) = true := by decide +kernel

/-- R330 to R333. -/
theorem test_linking_branches :
    ([
      (Instr.bltzal 1 0x3, 5, 0, 0x80000404, 0x80000408, true),
      (.bgezal 1 0x3, 5, 0, 0x80000404, 0x80000410, true),
      (.bltzall 1 0x3, 5, 0, 0x80000408, 0x8000040C, false),
      (.bgezall 1 0x3, 0xFFFFFFFFFFFFFFFF, 0, 0x80000408, 0x8000040C, false)] : List (Instr × Dword × Dword × Word × Word × Bool)).all (fun r =>
      nextIs (exec r.1 (setRegs base [(1, r.2.1), (2, r.2.2.1)]))
        (fun t => t.pc == r.2.2.2.1 && t.npc == r.2.2.2.2.1 && t.ds == r.2.2.2.2.2 && t.readX 31 == 0xFFFFFFFF80000408#64)) = true := by decide +kernel

/-- R340, R341: EPC, the code, EXL, the vector. -/
theorem test_syscall_break :
    ([(Instr.syscall, 0x20), (.break_, 0x24)] : List (Instr × Word)).all (fun r =>
      nextIs (exec r.1 base) (fun t => t.cp0.epc == 0x80000400#32 && t.cp0.cause == r.2 && t.cp0.status == 0x34000002#32 &&
        t.pc == 0x80000180#32 && t.npc == 0x80000184#32)) = true := by decide +kernel

/-- R341, R542: in a delay slot EPC is the branch's address and BD is set. -/
theorem test_break_in_delay_slot :
    nextIs (exec .break_ { base with ds := true }) (fun t => t.cp0.epc == 0x800003FC#32 && t.cp0.cause == 0x80000024#32 && !t.ds) =
      true := by decide +kernel

/-- R342, R343. -/
theorem test_sync_cache :
    [Instr.sync, .cache 4 20 0].all (fun i => nextIs (exec i base) (fun t => t.pc == 0x80000404#32 && t.cp0.cause == 0)) = true := by
  decide +kernel

/-- R344 to R355, each rule's example: sources, then whether Trap (code 13) is raised. -/
theorem test_traps :
    ([
      (Instr.tge 1 2, 0, 0xFFFFFFFFFFFFFFFF, true), (.tgeu 1 2, 0, 0xFFFFFFFFFFFFFFFF, false),
      (.tlt 1 2, 0xFFFFFFFFFFFFFFFF, 0, true), (.tltu 1 2, 0xFFFFFFFFFFFFFFFF, 0, false), (.teq 1 2, 3, 3, true),
      (.tne 1 2, 3, 3, false), (.tgei 1 0xFFFF, 0, 0, true), (.tgeiu 1 0xFFFF, 0, 0, false),
      (.tlti 1 0xFFFF, 0xFFFFFFFFFFFFFFFE, 0, true), (.tltiu 1 0xFFFF, 0, 0, true),
      (.teqi 1 0xFFFF, 0xFFFFFFFFFFFFFFFF, 0, true), (.tnei 1 0xFFFF, 0xFFFFFFFFFFFFFFFF, 0, false)] : List (Instr × Dword × Dword × Bool)).all (fun r =>
      nextIs (exec r.1 (setRegs base [(1, r.2.1), (2, r.2.2.1)]))
        (fun t => t.pc == (if r.2.2.2 then 0x80000180#32 else 0x80000404#32) &&
          t.cp0.cause == (if r.2.2.2 then 0x34#32 else 0))) = true := by decide +kernel

/-- R344 to R355, the other outcome. -/
theorem test_traps_otherwise :
    ([
      (Instr.tge 1 2, 0xFFFFFFFFFFFFFFFF, 0, false), (.tgeu 1 2, 0xFFFFFFFFFFFFFFFF, 0, true),
      (.tlt 1 2, 0, 0xFFFFFFFFFFFFFFFF, false), (.tltu 1 2, 0, 0xFFFFFFFFFFFFFFFF, true), (.teq 1 2, 3, 4, false),
      (.tne 1 2, 3, 4, true), (.tgei 1 0xFFFF, 0xFFFFFFFFFFFFFFFE, 0, false), (.tgeiu 1 0xFFFF, 0xFFFFFFFFFFFFFFFF, 0, true),
      (.tlti 1 0xFFFF, 0, 0, false), (.tltiu 1 0xFFFF, 0xFFFFFFFFFFFFFFFF, 0, false), (.teqi 1 0xFFFF, 0, 0, false),
      (.tnei 1 0xFFFF, 0, 0, true)] : List (Instr × Dword × Dword × Bool)).all (fun r =>
      nextIs (exec r.1 (setRegs base [(1, r.2.1), (2, r.2.2.1)]))
        (fun t => t.pc == (if r.2.2.2 then 0x80000180#32 else 0x80000404#32) &&
          t.cp0.cause == (if r.2.2.2 then 0x34#32 else 0))) = true := by decide +kernel

/-- R361: Status is read; Random halts. -/
theorem test_mfc0 :
    (givesReg base ([], .mfc0 2 12, 2, 0x34000000) && haltsWith (exec (.mfc0 2 1) base) .randomRead) = true := by decide +kernel

/-- R362, R380, R382: Compare clears Cause bit 15; Cause takes only zero. -/
theorem test_mtc0_compare_cause :
    (nextIs (exec (.mtc0 2 11) (setRegs { base with cp0 := { base.cp0 with cause := 0x8400 } } [(2, 0x1000)]))
        (fun t => t.cp0.compare == 0x1000#32 && t.cp0.cause == 0x400#32) &&
      haltsWith (exec (.mtc0 2 13) (setRegs base [(2, 1)])) .nonZeroCauseWrite) = true := by decide +kernel

/-- V45, R370 to R390: all ones written, the value read back. -/
theorem test_mtc0_masks :
    ([
      (2, 0x000000003FFFFFFF), (3, 0x000000003FFFFFFF), (5, 0x0000000001FFE000), (6, 0x000000000000003F),
      (10, 0xFFFFFFFFFFFFE0FF), (14, 0xFFFFFFFFFFFFFFFF), (16, 0xFFFFFFFFFFFFFFFF), (18, 0xFFFFFFFFFFFFFFFF),
      (19, 0xFFFFFFFFFFFFFFFF), (28, 0x000000000FFFFFC0), (29, 0x0000000000000000)] : List (RegNum × Dword)).all (fun r =>
      nextIs (exec (.mtc0 1 r.1) (setRegs base [(1, 0xFFFFFFFFFFFFFFFF)])) (fun t => givesReg t ([], .mfc0 2 r.1, 2, r.2))) = true := by
  decide +kernel

/-- R363: the four registers of the example. -/
theorem test_tlbr :
    nextIs (exec .tlbr { tlbBase with cp0 := { base.cp0 with index := 3 } }) (fun t => t.cp0.pageMask == 0 &&
      t.cp0.entryHi == 0x00010005#32 && t.cp0.entryLo0 == 0x00004016#32 && t.cp0.entryLo1 == 0x00004052#32) = true := by
  decide +kernel

/-- R364: slot 3 becomes that entry; page 0x00010 reads and writes frame 0x00100, page 0x00011 only reads frame 0x00101. -/
theorem test_tlbwi :
    nextIs (exec .tlbwi { tlbBase with tlb := base.tlb }) (fun t => decide (t.readTlb 3 = entry3) &&
      decide (t.translate .store 0x00010004#32 = .ok 0x00100004#32) && decide (t.translate .load 0x00011FFF#32 = .ok 0x00101FFF#32) &&
      decide (t.translate .store 0x00011000#32 = .raise (.tlbMiss .store 0x00011000#32))) = true := by decide +kernel

/-- R366: the match, and no match. -/
theorem test_tlbp :
    (nextIs (exec .tlbp { tlbBase with cp0 := { tlbBase.cp0 with index := 7 } }) (fun t => t.cp0.index == 3) &&
      nextIs (exec .tlbp { tlbBase with cp0 := { tlbBase.cp0 with index := 7, entryHi := 0x00010006 } })
        (fun t => t.cp0.index == 0x80000007#32)) = true := by decide +kernel

/-- R368: the example, and EXL = 0. -/
theorem test_eret :
    (nextIs (exec .eret
        { withStatus 0x00000003 with llbit := true, cp0 := { base.cp0 with status := 0x00000003, epc := 0x80000404 } })
        (fun t => t.cp0.status == 1 && !t.llbit && t.pc == 0x80000404#32 && t.npc == 0x80000408#32) &&
      haltsWith (exec .eret base) .eretWithoutException) = true := by decide +kernel

/-- R360, R400: without the enable, CoprocessorUnusable (code 11) with CE 0 or 1. -/
theorem test_coprocessor_unusable :
    ([(Instr.mfc0 2 12, 0x2C), (.eret, 0x2C), (.tlbp, 0x2C), (.mfc1 2 4, 0x1000002C), (.addD 2 4 6, 0x1000002C)] :
      List (Instr × Word)).all (fun r => nextIs (exec r.1 user) (fun t => t.cp0.cause == r.2 && t.cp0.epc == 0x80000400#32)) =
      true := by decide +kernel

/-- R401 to R406. -/
theorem test_fp_moves :
    (givesReg (base.writeS 4 0xBFC00000) ([], .mfc1 2 4, 2, 0xFFFFFFFFBFC00000) &&
      givesReg (base.writeD 4 0x400E000000000000) ([], .dmfc1 2 4, 2, 0x400E000000000000) &&
      givesReg { base with fcr31 := 0x00800001 } ([], .cfc1 2 31, 2, 0x800001) &&
      nextIs (exec (.mtc1 2 4) (setRegs base [(2, 0x3FC00000)])) (fun t => t.readS 4 == 0x3FC00000#32) &&
      nextIs (exec (.dmtc1 2 4) (setRegs base [(2, 0x3FF8000000000000)])) (fun t => t.readD 4 == 0x3FF8000000000000#64) &&
      nextIs (exec (.ctc1 2 31) (setRegs base [(2, 2)])) (fun t => t.fcr31 == 2 && decide (t.roundMode = .up))) = true := by
  decide +kernel

/-- R56, R57 with FR = 0: the odd single register is the high half of the even one, and an odd double refuses. -/
theorem test_fp_pairs :
    (nextIs (exec (.mtc1 2 5) (setRegs (withStatus 0x30000000) [(2, 0x3FC00000)]))
        (fun t => t.readD 4 == 0x3FC0000000000000#64 && t.readS 5 == 0x3FC00000#32) &&
      refusesWith (exec (.dmtc1 2 5) (withStatus 0x30000000)) .oddDouble) = true := by decide +kernel

/-- R407 to R410: the flag, then pc, npc, ds. -/
theorem test_fp_branches :
    ([
      (Instr.bc1f 3, 0, 0x80000404, 0x80000410, true), (.bc1f 3, 0x800000, 0x80000404, 0x80000408, true),
      (.bc1t 3, 0x800000, 0x80000404, 0x80000410, true), (.bc1t 3, 0, 0x80000404, 0x80000408, true),
      (.bc1fl 3, 0, 0x80000404, 0x80000410, true), (.bc1fl 3, 0x800000, 0x80000408, 0x8000040C, false),
      (.bc1tl 3, 0x800000, 0x80000404, 0x80000410, true), (.bc1tl 3, 0, 0x80000408, 0x8000040C, false)] :
      List (Instr × Word × Word × Word × Bool)).all (fun r => nextIs (exec r.1 { base with fcr31 := r.2.1 })
        (fun t => t.pc == r.2.2.1 && t.npc == r.2.2.2.1 && t.ds == r.2.2.2.2)) = true := by decide +kernel

/-- R411 to R414. -/
theorem test_fp_loads_stores :
    (nextIs (exec (.lwc1 1 4 0) loadBase) (fun t => t.readS 4 == 0x80818283#32) &&
      nextIs (exec (.ldc1 1 4 0) loadBase) (fun t => t.readD 4 == 0x8081828384858687#64) &&
      nextIs (exec (.swc1 1 4 0) (storeBase.writeS 4 0x3FC00000))
        (fun t => bytesAt t 0x1000 8 == [0x3F, 0xC0, 0, 0, 0xEE, 0xEE, 0xEE, 0xEE]) &&
      nextIs (exec (.sdc1 1 4 0) (storeBase.writeD 4 0x3FF8000000000000))
        (fun t => bytesAt t 0x1000 8 == [0x3F, 0xF8, 0, 0, 0, 0, 0, 0])) = true := by decide +kernel

/-- R412, R414, R554 with FR = 0 and an odd register: a misaligned address raises AddressError (codes 4 and 5) first; from an aligned one
LDC1 that misses raises TLBMiss, and either refuses. -/
theorem test_fp_odd_double_order :
    let s := { loadBase with cp0 := { base.cp0 with status := 0x30000000#32 } }
    (nextIs (exec (.ldc1 1 5 4) s) (fun t => t.cp0.cause == 0x10#32 && t.cp0.badVAddr == 0x80001004#32) &&
      nextIs (exec (.sdc1 1 5 4) s) (fun t => t.cp0.cause == 0x14#32 && t.cp0.badVAddr == 0x80001004#32) &&
      nextIs (exec (.ldc1 0 5 0x3000) s) (fun t => t.cp0.cause == 0x08#32 && t.cp0.badVAddr == 0x00003000#32) &&
      refusesWith (exec (.ldc1 1 5 0) s) .oddDouble && refusesWith (exec (.sdc1 1 5 0) s) .oddDouble) = true := by decide +kernel

/-- A state with two sources in `S[4]` and `S[2]`, and a rounding mode. -/
def fpS (rm : Word) (a b : Word) : State := { (base.writeS 4 a).writeS 2 b with fcr31 := rm }

/-- A state with two sources in `D[4]` and `D[2]`, and a rounding mode. -/
def fpD (rm : Word) (a b : Dword) : State := { (base.writeD 4 a).writeD 2 b with fcr31 := rm }

/-- A row: instruction, source in register 4, source in register 2, rounding mode, result in register 6. -/
abbrev RowS := Instr × Word × Word × Word × Word

/-- As `RowS` with doubles. -/
abbrev RowD := Instr × Dword × Dword × Word × Dword

/-- R424 to R439, format S. -/
theorem test_fp_arithmetic_s :
    ([
      (Instr.addS 2 4 6, 0x3FC00000, 0x40100000, 0, 0x40700000), (.subS 2 4 6, 0x3FC00000, 0x40100000, 0, 0xBF400000),
      (.mulS 2 4 6, 0x3FC00000, 0x40100000, 0, 0x40580000), (.divS 2 4 6, 0x3FC00000, 0x40100000, 0, 0x3F2AAAAB),
      (.sqrtS 4 6, 0x40100000, 0, 0, 0x3FC00000), (.absS 4 6, 0xBFC00000, 0, 0, 0x3FC00000),
      (.movS 4 6, 0xBFC00000, 0, 0, 0xBFC00000), (.negS 4 6, 0xBFC00000, 0, 0, 0x3FC00000)] : List RowS).all (fun r =>
      nextIs (exec r.1 (fpS r.2.2.2.1 r.2.1 r.2.2.1)) (fun t => t.readS 6 == r.2.2.2.2)) = true := by decide +kernel

/-- R424 to R439, format D. -/
theorem test_fp_arithmetic_d :
    ([
      (Instr.addD 2 4 6, 0x3FF8000000000000, 0x4002000000000000, 0, 0x400E000000000000),
      (.subD 2 4 6, 0x3FF8000000000000, 0x4002000000000000, 0, 0xBFE8000000000000),
      (.mulD 2 4 6, 0x3FF8000000000000, 0x4002000000000000, 0, 0x400B000000000000),
      (.divD 2 4 6, 0x3FF8000000000000, 0x4002000000000000, 0, 0x3FE5555555555555),
      (.sqrtD 4 6, 0x4002000000000000, 0, 0, 0x3FF8000000000000), (.absD 4 6, 0xBFF8000000000000, 0, 0, 0x3FF8000000000000),
      (.movD 4 6, 0xBFF8000000000000, 0, 0, 0xBFF8000000000000), (.negD 4 6, 0xBFF8000000000000, 0, 0, 0x3FF8000000000000)] : List RowD).all (fun r =>
      nextIs (exec r.1 (fpD r.2.2.2.1 r.2.1 r.2.2.1)) (fun t => t.readD 6 == r.2.2.2.2)) = true := by decide +kernel

/-- V47, R421: 1 + 2^-24 in the four rounding modes, and the four modes of 2/3. -/
theorem test_fp_rounding_modes :
    ([
      (Instr.addS 2 4 6, 0x3F800000, 0x33800000, 0, 0x3F800000), (.addS 2 4 6, 0x3F800000, 0x33800000, 1, 0x3F800000),
      (.addS 2 4 6, 0x3F800000, 0x33800000, 2, 0x3F800001), (.addS 2 4 6, 0x3F800000, 0x33800000, 3, 0x3F800000),
      (.divS 2 4 6, 0x3FC00000, 0x40100000, 1, 0x3F2AAAAA), (.divS 2 4 6, 0x3FC00000, 0x40100000, 2, 0x3F2AAAAB),
      (.divS 2 4 6, 0x3FC00000, 0x40100000, 3, 0x3F2AAAAA)] : List RowS).all (fun r =>
      nextIs (exec r.1 (fpS r.2.2.2.1 r.2.1 r.2.2.1)) (fun t => t.readS 6 == r.2.2.2.2)) = true := by decide +kernel

/-- R455 to R480 from an D view to a D view: source, rounding mode, result. -/
theorem test_convert_d_to_d :
    ([
      (Instr.roundLD 4 6, 0x4004000000000000, 0, 0x0000000000000002), (.roundLD 4 6, 0x4004000000000000, 0, 0x0000000000000002),
      (.truncLD 4 6, 0x4004000000000000, 0, 0x0000000000000002), (.truncLD 4 6, 0x4004000000000000, 0, 0x0000000000000002),
      (.ceilLD 4 6, 0x4004000000000000, 0, 0x0000000000000003), (.ceilLD 4 6, 0x4004000000000000, 0, 0x0000000000000003),
      (.floorLD 4 6, 0x4004000000000000, 0, 0x0000000000000002), (.floorLD 4 6, 0x4004000000000000, 0, 0x0000000000000002),
      (.cvtDL 4 6, 0x0020000000000001, 0, 0x4340000000000000), (.cvtDL 4 6, 0x0020000000000001, 2, 0x4340000000000001),
      (.cvtLD 4 6, 0x4004000000000000, 0, 0x0000000000000002), (.cvtLD 4 6, 0x4004000000000000, 1, 0x0000000000000002),
      (.cvtLD 4 6, 0x4004000000000000, 2, 0x0000000000000003), (.cvtLD 4 6, 0x4004000000000000, 3, 0x0000000000000002)] : List (Instr × Dword × Word × Dword)).all (fun r =>
      nextIs (exec r.1 (fpD r.2.2.1 r.2.1 0)) (fun t => t.readD 6 == r.2.2.2)) = true := by decide +kernel

/-- R455 to R480 from an D view to a S view: source, rounding mode, result. -/
theorem test_convert_d_to_s :
    ([
      (Instr.roundWD 4 6, 0x4004000000000000, 0, 0x00000002), (.roundWD 4 6, 0xC004000000000000, 0, 0xFFFFFFFE),
      (.truncWD 4 6, 0x4004000000000000, 0, 0x00000002), (.truncWD 4 6, 0xC004000000000000, 0, 0xFFFFFFFE),
      (.ceilWD 4 6, 0x4004000000000000, 0, 0x00000003), (.ceilWD 4 6, 0xC004000000000000, 0, 0xFFFFFFFE),
      (.floorWD 4 6, 0x4004000000000000, 0, 0x00000002), (.floorWD 4 6, 0xC004000000000000, 0, 0xFFFFFFFD),
      (.cvtSD 4 6, 0x3FF0000010000000, 0, 0x3F800000), (.cvtSD 4 6, 0x3FF0000010000000, 2, 0x3F800001),
      (.cvtSL 4 6, 0x0000000001000001, 0, 0x4B800000), (.cvtSL 4 6, 0x0000000001000001, 2, 0x4B800001),
      (.cvtWD 4 6, 0x4004000000000000, 0, 0x00000002), (.cvtWD 4 6, 0x4004000000000000, 1, 0x00000002),
      (.cvtWD 4 6, 0x4004000000000000, 2, 0x00000003), (.cvtWD 4 6, 0x4004000000000000, 3, 0x00000002)] : List (Instr × Dword × Word × Word)).all (fun r =>
      nextIs (exec r.1 (fpD r.2.2.1 r.2.1 0)) (fun t => t.readS 6 == r.2.2.2)) = true := by decide +kernel

/-- R455 to R480 from an S view to a D view: source, rounding mode, result. -/
theorem test_convert_s_to_d :
    ([
      (Instr.roundLS 4 6, 0x40200000, 0, 0x0000000000000002), (.roundLS 4 6, 0x40200000, 0, 0x0000000000000002),
      (.truncLS 4 6, 0x40200000, 0, 0x0000000000000002), (.truncLS 4 6, 0x40200000, 0, 0x0000000000000002),
      (.ceilLS 4 6, 0x40200000, 0, 0x0000000000000003), (.ceilLS 4 6, 0x40200000, 0, 0x0000000000000003),
      (.floorLS 4 6, 0x40200000, 0, 0x0000000000000002), (.floorLS 4 6, 0x40200000, 0, 0x0000000000000002),
      (.cvtDS 4 6, 0x3FC00000, 0, 0x3FF8000000000000), (.cvtDS 4 6, 0x3FC00000, 0, 0x3FF8000000000000),
      (.cvtDW 4 6, 0xFFFFFFFF, 0, 0xBFF0000000000000), (.cvtDW 4 6, 0xFFFFFFFF, 0, 0xBFF0000000000000),
      (.cvtLS 4 6, 0x40200000, 0, 0x0000000000000002), (.cvtLS 4 6, 0x40200000, 1, 0x0000000000000002),
      (.cvtLS 4 6, 0x40200000, 2, 0x0000000000000003), (.cvtLS 4 6, 0x40200000, 3, 0x0000000000000002)] : List (Instr × Word × Word × Dword)).all (fun r =>
      nextIs (exec r.1 (fpS r.2.2.1 r.2.1 0)) (fun t => t.readD 6 == r.2.2.2)) = true := by decide +kernel

/-- R455 to R480 from an S view to a S view: source, rounding mode, result. -/
theorem test_convert_s_to_s :
    ([
      (Instr.roundWS 4 6, 0x40200000, 0, 0x00000002), (.roundWS 4 6, 0xC0200000, 0, 0xFFFFFFFE),
      (.truncWS 4 6, 0x40200000, 0, 0x00000002), (.truncWS 4 6, 0xC0200000, 0, 0xFFFFFFFE),
      (.ceilWS 4 6, 0x40200000, 0, 0x00000003), (.ceilWS 4 6, 0xC0200000, 0, 0xFFFFFFFE),
      (.floorWS 4 6, 0x40200000, 0, 0x00000002), (.floorWS 4 6, 0xC0200000, 0, 0xFFFFFFFD),
      (.cvtSW 4 6, 0x01000001, 0, 0x4B800000), (.cvtSW 4 6, 0x01000001, 2, 0x4B800001), (.cvtWS 4 6, 0x40200000, 0, 0x00000002),
      (.cvtWS 4 6, 0x40200000, 1, 0x00000002), (.cvtWS 4 6, 0x40200000, 2, 0x00000003), (.cvtWS 4 6, 0x40200000, 3, 0x00000002)] : List (Instr × Word × Word × Word)).all (fun r =>
      nextIs (exec r.1 (fpS r.2.2.1 r.2.1 0)) (fun t => t.readS 6 == r.2.2.2)) = true := by decide +kernel

/-- R481 to R512, format S: 1.5 with 2.25. -/
theorem test_compare_s :
    ([
      (Instr.cFS 2 4, false), (.cUnS 2 4, false), (.cEqS 2 4, false), (.cUeqS 2 4, false), (.cOltS 2 4, true),
      (.cUltS 2 4, true), (.cOleS 2 4, true), (.cUleS 2 4, true), (.cSfS 2 4, false), (.cNgleS 2 4, false), (.cSeqS 2 4, false),
      (.cNglS 2 4, false), (.cLtS 2 4, true), (.cNgeS 2 4, true), (.cLeS 2 4, true), (.cNgtS 2 4, true)] : List (Instr × Bool)).all (fun r =>
      nextIs (exec r.1 (fpS 0 0x3FC00000 0x40100000)) (fun t => t.fcr31 == if r.2 then 0x800000 else 0)) = true := by
  decide +kernel

/-- R481 to R512, format S: 1.5 with a quiet NaN; `none` where the compare halts. -/
theorem test_compare_nan_s :
    ([
      (Instr.cFS 2 4, some false), (.cUnS 2 4, some true), (.cEqS 2 4, some false), (.cUeqS 2 4, some true),
      (.cOltS 2 4, some false), (.cUltS 2 4, some true), (.cOleS 2 4, some false), (.cUleS 2 4, some true), (.cSfS 2 4, none),
      (.cNgleS 2 4, none), (.cSeqS 2 4, none), (.cNglS 2 4, none), (.cLtS 2 4, none), (.cNgeS 2 4, none), (.cLeS 2 4, none),
      (.cNgtS 2 4, none)] : List (Instr × Option Bool)).all (fun r =>
      let out := exec r.1 (fpS 0 0x3FC00000 0x7FC00000)
      match r.2 with
      | some c => nextIs out (fun t => t.fcr31 == if c then 0x800000 else 0)
      | none => haltsWith out .fpInvalidOperation) = true := by decide +kernel

/-- R481 to R512, format D: 1.5 with 2.25. -/
theorem test_compare_d :
    ([
      (Instr.cFD 2 4, false), (.cUnD 2 4, false), (.cEqD 2 4, false), (.cUeqD 2 4, false), (.cOltD 2 4, true),
      (.cUltD 2 4, true), (.cOleD 2 4, true), (.cUleD 2 4, true), (.cSfD 2 4, false), (.cNgleD 2 4, false), (.cSeqD 2 4, false),
      (.cNglD 2 4, false), (.cLtD 2 4, true), (.cNgeD 2 4, true), (.cLeD 2 4, true), (.cNgtD 2 4, true)] : List (Instr × Bool)).all (fun r =>
      nextIs (exec r.1 (fpD 0 0x3FF8000000000000 0x4002000000000000)) (fun t => t.fcr31 == if r.2 then 0x800000 else 0)) = true := by
  decide +kernel

/-- R481 to R512, format D: 1.5 with a quiet NaN; `none` where the compare halts. -/
theorem test_compare_nan_d :
    ([
      (Instr.cFD 2 4, some false), (.cUnD 2 4, some true), (.cEqD 2 4, some false), (.cUeqD 2 4, some true),
      (.cOltD 2 4, some false), (.cUltD 2 4, some true), (.cOleD 2 4, some false), (.cUleD 2 4, some true), (.cSfD 2 4, none),
      (.cNgleD 2 4, none), (.cSeqD 2 4, none), (.cNglD 2 4, none), (.cLtD 2 4, none), (.cNgeD 2 4, none), (.cLeD 2 4, none),
      (.cNgtD 2 4, none)] : List (Instr × Option Bool)).all (fun r =>
      let out := exec r.1 (fpD 0 0x3FF8000000000000 0x7FF8000000000000)
      match r.2 with
      | some c => nextIs out (fun t => t.fcr31 == if c then 0x800000 else 0)
      | none => haltsWith out .fpInvalidOperation) = true := by decide +kernel

/-! ### Hypotheses of the statements, met by concrete states and operands -/

/-- `base` with a word at its program counter. -/
def placed (w : Word) : State := base.placeWord w

/-- `base` with a program counter. -/
def atPc (pc : Word) : State := { base with pc := pc, npc := pc + 4 }

/-- `base` on a platform that declares the bytes 0x00000400 to 0x00001003 not to be RAM: its own code, and half of the doubleword of the
examples of 42_loadstore.md. -/
def device : State := { loadBase with notRam := [{ base := 0x400, size := 0xC04 }] }

/-- `base` with register 1 holding an address, sign-extended. -/
def pointing (va : Word) : State := setRegs base [(1, sext64 va)]

/-- A TLB whose slots 3 and 4 hold the same pages: not consistent. -/
def inconsistent : State := { tlbBase with tlb := tlbBase.tlb.set 4 entry3 }

/-- R85: of a doubleword that is half RAM a load reads the RAM half from memory, a store writes it; the platform sees each access once,
with all the bytes of a store; RAM alone is no transaction. -/
theorem test_port :
    (nextIs (exec (.ld 1 2 0) device) (fun t => t.port.length == 1) && device.answerByte 0x00001000#32 8 4 == 0x84 &&
      nextIs (exec (.sd 1 2 0) device) (fun t => bytesAt t 0x1000 8 == [0x80, 0x81, 0x82, 0x83, 0x55, 0x66, 0x77, 0x88] &&
        decide (t.port = [.write 0 0x00001000#32 8 0x1122334455667788#64])) &&
      nextIs (exec (.lw 1 2 4) device) (fun t => t.readX 2 == 0xFFFFFFFF84858687#64 && t.port.isEmpty)) = true := by decide +kernel

/-- R600, R601: a reset of a halted block leaves memory (log 31), and the block runs from the reset vector. -/
theorem test_host_reset :
    let t := State.hostReset { device with stop := true, time := 7 } device
    (!t.stop && t.pc == 0xBFC00000#32 && t.npc == 0xBFC00004#32 && t.erl && t.bev && !t.statusBit 20 && t.time == 0 &&
      bytesAt t 0x1000 4 == [0x80, 0x81, 0x82, 0x83] && decide (t.port = [.reset 7])) = true := by decide +kernel

theorem witness_DecodeInvertsEncode : (Instr.cache 31 31 0xFFFF).wellFormed = true := by decide

theorem witness_DecodesExactlyItsEncodings :
    (Instr.sll 2 3 31).wellFormed = true ∧ decodeWord 0x03E21FC0#32 = .ok (.sll 2 3 31) := ⟨by decide, rfl⟩

theorem witness_StepRunsDecodedInstruction_next :
    let s := placed 0x2022FFFF#32
    s.stop = false ∧ s.deliverEvents.interruptPending = false ∧ s.deliverEvents.fetch s.deliverEvents.pc = .ok (0x2022FFFF#32, s.deliverEvents) ∧
      decodeWord 0x2022FFFF#32 = .ok (.addi 1 2 0xFFFF) ∧ ∃ t, exec (.addi 1 2 0xFFFF) s.deliverEvents = .next t :=
  ⟨by decide +kernel, by decide +kernel, rfl, rfl, _, rfl⟩

theorem witness_StepRunsDecodedInstruction_fault :
    let s := placed 0x40020800#32
    s.stop = false ∧ s.deliverEvents.interruptPending = false ∧ s.deliverEvents.fetch s.deliverEvents.pc = .ok (0x40020800#32, s.deliverEvents) ∧
      decodeWord 0x40020800#32 = .ok (.mfc0 2 1) ∧ exec (.mfc0 2 1) s.deliverEvents = .fault (.halt .randomRead) :=
  ⟨by decide +kernel, by decide +kernel, rfl, rfl, rfl⟩

theorem witness_StepRunsDecodedInstruction_refused :
    let s := { placed 0x10220003#32 with ds := true }
    s.stop = false ∧ s.deliverEvents.interruptPending = false ∧ s.deliverEvents.fetch s.deliverEvents.pc = .ok (0x10220003#32, s.deliverEvents) ∧
      decodeWord 0x10220003#32 = .ok (.beq 1 2 3) ∧ exec (.beq 1 2 3) s.deliverEvents = .refused .branchInDelaySlot :=
  ⟨by decide +kernel, by decide +kernel, rfl, rfl, rfl⟩

/-- The word comes from the platform: what it is nobody knows, and the port transcript keeps the read. -/
theorem witness_StepRunsDecodedInstruction_platform :
    ∃ w, device.deliverEvents.fetch device.deliverEvents.pc = .ok (w, device.deliverEvents.afterRead 0x00000400#32 4) ∧
      device.notRam ≠ [] ∧ (device.deliverEvents.afterRead 0x00000400#32 4).port.length = 1 :=
  ⟨_, rfl, by decide, rfl⟩

/-- The two ends of the unmapped window, a mapped page, and a word no byte of which is RAM. -/
theorem witness_FetchReadsTheWordOrRaises_word :
    [(atPc 0x80000000#32, 0#32), (atPc 0xBFFFFFFC#32, 0x1FFFFFFC#32), ({ tlbBase with pc := 0x00011FFC#32 }, 0x00101FFC#32),
      (device, 0x00000400#32)].all (fun p =>
        p.1.pc.extractLsb' 0 2 == 0 && decide (p.1.translate .fetch p.1.pc = .ok p.2)) = true ∧
      (∀ k < 4, base.isRam (0x1FFFFFFC + k) = true) ∧ ∀ k < 4, device.isRam (0x400 + k) = false := by decide +kernel

theorem witness_FetchReadsTheWordOrRaises_raises :
    let s := atPc 0x80000401#32
    let u := atPc 0x7FFFFFFC#32
    (s.stop = false ∧ s.deliverEvents.interruptPending = false ∧ s.deliverEvents.pc.extractLsb' 0 2 ≠ 0) ∧
      u.stop = false ∧ u.deliverEvents.interruptPending = false ∧ u.deliverEvents.pc.extractLsb' 0 2 = 0 ∧
      u.deliverEvents.translate .fetch u.deliverEvents.pc = .raise (.tlbMiss .fetch u.deliverEvents.pc) := by decide +kernel

theorem witness_ReservedWordHalts :
    let s := placed 0x48000000#32
    s.stop = false ∧ s.deliverEvents.interruptPending = false ∧ s.deliverEvents.fetch s.deliverEvents.pc = .ok (0x48000000#32, s.deliverEvents) ∧
      isReserved 0x48000000#32 = true ∧ { s with stop := true }.stop = true :=
  ⟨by decide +kernel, by decide +kernel, rfl, by decide, rfl⟩

/-- The lowest and the highest interrupt line. -/
theorem witness_InterruptEndsTheStep :
    [0x00000100#32, 0x00008000#32].all (fun c =>
      let s := { withStatus 0x0000FF01#32 with cp0 := { (withStatus 0x0000FF01#32).cp0 with cause := c } }
      !s.stop && s.deliverEvents.interruptPending) = true := by decide +kernel

theorem witness_ExceptionEntryWrites : base.exl = false ∧ (withStatus 0x34000002#32).exl = true := by decide

/-- A refill (no entry covers 0x00002000), and three entries that are none: a covered page, EXL = 1, another exception. -/
theorem witness_ExceptionCodesAndVectors :
    let covers (va : Word) := ∃ k : BitVec 5,
      va.extractLsb' 13 19 &&& ~~~(base.readTlb k).mask.setWidth 19 =
        (base.readTlb k).vpn2 &&& ~~~(base.readTlb k).mask.setWidth 19
    base.exl = false ∧ ¬covers 0x00002000#32 ∧ covers 0x00001FFF#32 ∧ (withStatus 0x34000002#32).exl = true := by decide +kernel

theorem witness_EretReturns :
    [0x34000002#32, 0x34000000#32].all (fun c => !(withStatus c).ds && (withStatus c).cop0Usable) = true ∧
      (withStatus 0x34000002#32).exl = true ∧ (withStatus 0x34000000#32).exl = false := by decide

theorem witness_MoveFromCop0ReadsEveryCell : base.cop0Usable = true := by decide

/-- Index takes 31 and halts on 32; Cause takes 0 and halts on 1. -/
theorem witness_MoveToCop0WritesByTarget :
    let s := setRegs base [(1, 31), (2, 32), (3, 1)]
    s.cop0Usable = true ∧ (s.readW 1 &&& 0x3F#32).toNat ≤ 31 ∧ 31 < (s.readW 2 &&& 0x3F#32).toNat ∧ s.readW 0 = 0 ∧ s.readW 3 ≠ 0 := by
  decide +kernel

theorem witness_StatusWriteKeepsEverySingleView :
    let s := setRegs base [(1, 0x34000001)]
    s.cop0Usable = true ∧ (s.readW 1).getLsbD 26 = s.cp0.status.getLsbD 26 ∧ (s.readW 0).getLsbD 26 ≠ s.cp0.status.getLsbD 26 := by
  decide +kernel

theorem witness_CoprocessorsNeedTheirEnable :
    user.cop0Usable = false ∧ isPrivileged (.mfc0 2 12) = true ∧ isPrivileged .eret = true ∧ user.ds = false ∧
      isCop1 (.lwc1 1 4 0) = true ∧ isCop1 (.cNgtD 4 2) = true ∧ isCop1 (.bc1f 3) = true ∧
      controlTransfer (.bc1f 3) = true ∧ user.cp0.status.getLsbD 29 = false := by decide +kernel

/-- Wired 31 and 32. -/
theorem witness_TlbReadsAndWrites :
    let wired (w : Word) : State := { base with cp0 := { base.cp0 with wired := w } }
    (wired 31).cop0Usable = true ∧ (wired 31).cp0.wired.toNat ≤ 31 ∧ (wired 32).cop0Usable = true ∧
      31 < (wired 32).cp0.wired.toNat := by decide

/-- Slot 3 is the lowest match of the example; ASID 6 matches no slot. -/
theorem witness_TlbProbeFindsTheLowestMatch :
    let hits (s : State) (k : BitVec 5) : Prop :=
      (s.readTlb k).vpn2 &&& ~~~(s.readTlb k).mask.setWidth 19 =
          s.cp0.entryHi.extractLsb' 13 19 &&& ~~~(s.readTlb k).mask.setWidth 19 ∧
        ((s.readTlb k).global = true ∨ (s.readTlb k).asid = s.cp0.entryHi.extractLsb' 0 8)
    let u := { tlbBase with cp0 := { tlbBase.cp0 with entryHi := 0x00010006 } }
    tlbBase.cop0Usable = true ∧ hits tlbBase 3 ∧ (∀ j : BitVec 5, j.toNat < 3 → ¬hits tlbBase j) ∧ u.cop0Usable = true ∧
      ∀ k, ¬hits u k := by decide +kernel

theorem witness_WindowTranslation :
    [0x80000000#32, 0x9FFFFFFF#32].all (fun va => decide (0x80000000 ≤ va.toNat) && decide (va.toNat < 0xA0000000)) = true ∧
      [0xA0000000#32, 0xBFFFFFFF#32].all (fun va => decide (0xA0000000 ≤ va.toNat) && decide (va.toNat < 0xC0000000)) = true ∧
      base.translate .load 0xBFFFFFFF#32 = .ok 0x1FFFFFFF#32 ∧ inWindow 0xBFFFFFFF#32 = true := by decide +kernel

/-- The two halves of the entry of R363, at their first and last byte; one may be stored to. -/
theorem witness_MappedTranslation :
    tlbConsistent tlbBase.tlb = true ∧ inWindow 0x00010000#32 = false ∧ inWindow 0x00011FFF#32 = false ∧
      Mapped (tlbBase.readTlb 3) false ∧ InHalf (tlbBase.readTlb 3) false 0x00010000#32 ∧
      ((tlbBase.readTlb 3).half false).dirty = true ∧
      Mapped (tlbBase.readTlb 3) true ∧ InHalf (tlbBase.readTlb 3) true 0x00011FFF#32 ∧
      ((tlbBase.readTlb 3).half true).dirty = false := by
  unfold Mapped InHalf
  decide +kernel

/-- The first byte after the mapped pages, in the region of no half. -/
theorem witness_MappedTranslation_miss :
    inWindow 0x00012000#32 = false ∧
      ∀ (k : BitVec 5) (h : Bool), Mapped (tlbBase.readTlb k) h → ¬InHalf (tlbBase.readTlb k) h 0x00012000#32 := by
  unfold Mapped InHalf
  decide +kernel

theorem witness_TlbConsistencyIsTheRule :
    (tlbBase.readTlb 3).even.valid = true ∧ tlbConsistent inconsistent.tlb = false ∧ inWindow 0x7FFFFFFF#32 = false ∧
      inconsistent.cop0Usable = true ∧ inconsistent.cp0.wired.toNat ≤ 31 := by decide +kernel

theorem witness_MisalignedAccessRaises :
    ((pointing 0x80001000#32).effAddr 1 1).toNat % 2 ≠ 0 ∧ ((pointing 0x80001000#32).effAddr 1 2).toNat % 4 ≠ 0 ∧
      ((pointing 0x80001000#32).effAddr 1 4).toNat % 8 ≠ 0 ∧ base.cu1 = true ∧ (withStatus 0x30000000#32).cu1 = true ∧
      (withStatus 0x30000000#32).validD 5 = false := by decide +kernel

/-- The last addresses below the window, for each alignment, in both directions. -/
theorem witness_DataMissRaises :
    let s := { pointing 0x80000000#32 with llbit := true }
    [0xFFFF#16, 0xFFFE#16, 0xFFFC#16, 0xFFF8#16].all (fun imm =>
      decide (s.translate .load (s.effAddr 1 imm) = .raise (.tlbMiss .load (s.effAddr 1 imm))) &&
      decide (s.translate .store (s.effAddr 1 imm) = .raise (.tlbMiss .store (s.effAddr 1 imm)))) = true ∧
      (s.effAddr 1 0xFFFE).toNat % 2 = 0 ∧ (s.effAddr 1 0xFFFC).toNat % 4 = 0 ∧ (s.effAddr 1 0xFFF8).toNat % 8 = 0 ∧
      s.effAddr 1 0xFFFF &&& 0xFFFFFFFC#32 = s.effAddr 1 0xFFFC ∧ s.effAddr 1 0xFFFF &&& 0xFFFFFFF8#32 = s.effAddr 1 0xFFF8 ∧
      s.llbit = true ∧ s.cu1 = true ∧ s.validD 31 = true ∧ tlbConsistent inconsistent.tlb = false ∧
      inWindow (inconsistent.effAddr 1 0xFFF8) = false ∧ (inconsistent.effAddr 1 0xFFF8).toNat % 8 = 0 ∧
      { inconsistent with llbit := true }.llbit = true ∧ inconsistent.cu1 = true ∧ inconsistent.validD 31 = true := by decide +kernel

/-- The last byte, halfword, word and doubleword of the window; the same addresses serve the stores and the aligned bases. -/
theorem witness_AlignedLoadsReadBigEndian :
    (device.translate .load (device.effAddr 1 0) = .ok 0x00001000#32 ∧ (device.effAddr 1 0).toNat % 8 = 0 ∧
      (∀ k < 4, device.isRam (0x1000 + k) = false) ∧ device.isRam 0x1004 = true ∧ ∀ k < 8, base.isRam (0x1000 + k) = true) ∧
    let s := pointing 0xC0000000#32
    [(0xFFFF#16, 1), (0xFFFE#16, 2), (0xFFFC#16, 4), (0xFFF8#16, 8)].all (fun r =>
      decide (s.translate .load (s.effAddr 1 r.1) = .ok (s.effAddr 1 r.1 &&& 0x1FFFFFFF#32)) &&
        (s.effAddr 1 r.1).toNat % r.2 == 0) = true := by decide +kernel

theorem witness_UnalignedLoadsMerge :
    let s := pointing 0xC0000000#32
    s.translate .load (s.effAddr 1 0xFFFF &&& 0xFFFFFFFC#32) = .ok 0x1FFFFFFC#32 ∧
      s.translate .load (s.effAddr 1 0xFFFF &&& 0xFFFFFFF8#32) = .ok 0x1FFFFFF8#32 := by decide +kernel

theorem witness_AlignedStoresWriteBigEndian :
    let s := pointing 0xC0000000#32
    [(0xFFFF#16, 1), (0xFFFE#16, 2), (0xFFFC#16, 4), (0xFFF8#16, 8)].all (fun r =>
      decide (s.translate .store (s.effAddr 1 r.1) = .ok (s.effAddr 1 r.1 &&& 0x1FFFFFFF#32)) &&
        (s.effAddr 1 r.1).toNat % r.2 == 0) = true := by decide +kernel

theorem witness_UnalignedStoresWriteTheirPart :
    let s := pointing 0xC0000000#32
    s.translate .store (s.effAddr 1 0xFFFF) = .ok 0x1FFFFFFF#32 ∧
      s.translate .store (s.effAddr 1 0xFFFF &&& 0xFFFFFFFC#32) = .ok 0x1FFFFFFC#32 ∧
      s.translate .store (s.effAddr 1 0xFFFF &&& 0xFFFFFFF8#32) = .ok 0x1FFFFFF8#32 := by decide +kernel

theorem witness_LoadLinkedAndStoreConditional :
    let s := pointing 0xC0000000#32
    s.translate .load (s.effAddr 1 0xFFFC) = .ok 0x1FFFFFFC#32 ∧ (s.effAddr 1 0xFFFC).toNat % 4 = 0 ∧
      s.translate .load (s.effAddr 1 0xFFF8) = .ok 0x1FFFFFF8#32 ∧ (s.effAddr 1 0xFFF8).toNat % 8 = 0 ∧ s.llbit = false ∧
      { s with llbit := true }.llbit = true ∧ s.translate .store (s.effAddr 1 0xFFFC) = .ok 0x1FFFFFFC#32 ∧
      s.translate .store (s.effAddr 1 0xFFF8) = .ok 0x1FFFFFF8#32 := by decide +kernel

theorem witness_LinkBitLifecycle :
    (∃ t, exec (.ll 1 2 4) loadBase = .next t ∧ loadBase.llbit = false ∧ t.llbit = true) ∧
      ∃ t, exec (.sc 1 2 4) { storeBase with llbit := true } = .next t ∧ t.llbit = false :=
  ⟨⟨_, rfl, rfl, rfl⟩, _, rfl, rfl⟩

/-- The exact results 2^31 - 1, 2^31, -2^31, -2^31 - 1, and the same for 64 bits. -/
theorem witness_TrappingArithmetic :
    let s := setRegs base [(1, 0x7FFFFFFE), (2, 0xFFFFFFFF80000001), (3, 0x7FFFFFFFFFFFFFFE), (4, 0x8000000000000001), (5, 1), (6, 2)]
    let fits (w : Nat) (n : Int) : Prop := -2 ^ (w - 1) ≤ n ∧ n < 2 ^ (w - 1)
    fits 32 ((s.readW 1).toInt + (s.readW 5).toInt) ∧ ¬fits 32 ((s.readW 1).toInt + (s.readW 6).toInt) ∧
      fits 32 ((s.readW 1).toInt + (1#16).toInt) ∧ ¬fits 32 ((s.readW 1).toInt + (2#16).toInt) ∧
      fits 32 ((s.readW 2).toInt - (s.readW 5).toInt) ∧ ¬fits 32 ((s.readW 2).toInt - (s.readW 6).toInt) ∧
      fits 64 ((s.readX 3).toInt + (s.readX 5).toInt) ∧ ¬fits 64 ((s.readX 3).toInt + (s.readX 6).toInt) ∧
      fits 64 ((s.readX 3).toInt + (1#16).toInt) ∧ ¬fits 64 ((s.readX 3).toInt + (2#16).toInt) ∧
      fits 64 ((s.readX 4).toInt - (s.readX 5).toInt) ∧ ¬fits 64 ((s.readX 4).toInt - (s.readX 6).toInt) := by decide +kernel

theorem witness_ShiftResults : (31 : Nat) < 32 := by decide

theorem witness_WordResultsAreSignExtended :
    let s := setRegs base [(1, 0xFFFFFFFF80000000), (2, 3)]
    (∃ t, exec (.addu 1 2 3) s = .next t) ∧ (∃ t, exec (.multu 1 2) s = .next t) ∧ s.readW 2 ≠ 0 ∧
      ∃ t, exec (.divu 1 2) s = .next t :=
  ⟨⟨_, rfl⟩, ⟨_, rfl⟩, by decide +kernel, _, rfl⟩

/-- -7 by 2, and the quotients that do not fit. -/
theorem witness_DivisionsTruncate :
    let s := setRegs base [(1, 0xFFFFFFFFFFFFFFF9), (2, 2), (3, 0xFFFFFFFF80000000), (4, 0xFFFFFFFFFFFFFFFF), (5, 0x8000000000000000)]
    ((s.readW 2).toInt ≠ 0 ∧ ¬((s.readW 1).toInt = -2 ^ 31 ∧ (s.readW 2).toInt = -1)) ∧ (s.readW 2).toNat ≠ 0 ∧
      ((s.readX 2).toInt ≠ 0 ∧ ¬((s.readX 1).toInt = -2 ^ 63 ∧ (s.readX 2).toInt = -1)) ∧ (s.readX 2).toNat ≠ 0 ∧
      s.readW 3 = 0x80000000#32 ∧ s.readW 4 = 0xFFFFFFFF#32 ∧ s.readX 5 = 0x8000000000000000#64 ∧
      s.readX 4 = 0xFFFFFFFFFFFFFFFF#64 := by decide +kernel

/-- A register whose low word is zero, and register 0. -/
theorem witness_DivisionByZeroCompletes :
    (setRegs base [(2, 0xFFFFFFFF00000000)]).readW 2 = 0 ∧ base.readX 0 = 0 := by decide +kernel

theorem witness_OnlyTheirWritersChangeHiLoAndFcr31 :
    (∃ t, exec (.mthi 1) (setRegs base [(1, 9)]) = .next t ∧ (t.hi ≠ base.hi ∨ t.lo ≠ base.lo)) ∧
      (∃ t, exec (.ctc1 1 31) (setRegs base [(1, 9)]) = .next t ∧ t.fcr31 ≠ base.fcr31) ∧
      ∃ t, exec (.cEqS 2 2) base = .next t ∧ t.fcr31 ≠ base.fcr31 :=
  ⟨⟨_, rfl, by decide +kernel⟩, ⟨_, rfl, by decide +kernel⟩, _, rfl, by decide +kernel⟩

theorem witness_JumpsTransferAfterTheDelaySlot : base.ds = false := by decide

/-- The sign tests at -1, 0 and 1; equal and unequal registers. -/
theorem witness_BranchesTakeOrFallThrough :
    let s := setRegs base [(1, 0xFFFFFFFFFFFFFFFF), (2, 1)]
    s.ds = false ∧ s.readX 0 = s.readX 0 ∧ s.readX 1 ≠ s.readX 2 ∧ (s.readX 1).toInt < 0 ∧ ¬(s.readX 0).toInt < 0 ∧
      (s.readX 0).toInt ≤ 0 ∧ ¬(s.readX 2).toInt ≤ 0 ∧ 0 < (s.readX 2).toInt ∧ ¬0 < (s.readX 0).toInt ∧
      0 ≤ (s.readX 0).toInt ∧ ¬0 ≤ (s.readX 1).toInt := by decide +kernel

theorem witness_DelaySlotForbidsTransfers :
    exec .eret { base with ds := true } = .refused .branchInDelaySlot ∧ { base with ds := true }.ds = true ∧
      controlTransfer (.bc1tl 3) = true := ⟨rfl, rfl, rfl⟩

/-- The trap conditions at their boundaries: equal operands, and operands whose signed and unsigned orders differ. -/
theorem witness_TrapsRaiseWhenTheirConditionHolds :
    let s := setRegs base [(1, 0xFFFFFFFFFFFFFFFF)]
    (s.readX 0).toInt ≤ (s.readX 0).toInt ∧ ¬(s.readX 0).toInt ≤ (s.readX 1).toInt ∧ (s.readX 0).toNat ≤ (s.readX 1).toNat ∧
      ¬(s.readX 1).toNat ≤ (s.readX 0).toNat ∧ s.readX 0 ≠ s.readX 1 ∧ (0xFFFF#16).toInt < (s.readX 0).toInt ∧
      ((0xFFFF#16).signExtend 64).toNat = (s.readX 1).toNat := by decide +kernel

theorem witness_FloatingMoves : base.cu1 = true ∧ base.validD 31 = true ∧ (1#5 ≠ 0 ∧ 1#5 ≠ 31) ∧ 30#5 ≠ 31 := by decide

theorem witness_FloatingLoadsAndStores :
    let s := pointing 0xC0000000#32
    s.cu1 = true ∧ s.validD 31 = true ∧ (s.effAddr 1 0xFFFC).toNat % 4 = 0 ∧ (s.effAddr 1 0xFFF8).toNat % 8 = 0 ∧
      s.translate .load (s.effAddr 1 0xFFFC) = .ok 0x1FFFFFFC#32 ∧ s.translate .load (s.effAddr 1 0xFFF8) = .ok 0x1FFFFFF8#32 ∧
      s.translate .store (s.effAddr 1 0xFFFC) = .ok 0x1FFFFFFC#32 ∧
      s.translate .store (s.effAddr 1 0xFFF8) = .ok 0x1FFFFFF8#32 := by decide +kernel

theorem witness_FloatingBranches :
    base.cu1 = true ∧ base.ds = false ∧ { base with fcr31 := 0x00800000 }.fcr31.getLsbD 23 = true ∧ base.fcr31.getLsbD 23 = false := by
  decide

/-- With FR = 0 the even registers are valid, with FR = 1 all. -/
theorem witness_FloatingArithmeticCompletes :
    (withStatus 0x30000000#32).cu1 = true ∧ (withStatus 0x30000000#32).validD 30 = true ∧ base.cu1 = true ∧ base.validD 31 = true := by
  decide

/-- 1.5 and the smallest subnormal, in both formats. -/
theorem witness_ArithmeticIsCorrectlyRounded :
    HasValue (value32 0x3FC00000#32) 1.5 ∧ HasValue (value32 0x00000001#32) ((2 : ℝ) ^ (-149 : ℤ)) ∧
      HasValue (value64 0x3FF8000000000000#64) 1.5 ∧ HasValue (value64 0x0000000000000001#64) ((2 : ℝ) ^ (-1074 : ℤ)) ∧
      (1.5 : ℝ) + 1.5 ≠ 0 ∧ (1.5 : ℝ) - 1 ≠ 0 ∧ (1.5 : ℝ) * 1.5 ≠ 0 ∧ (1.5 : ℝ) ≠ 0 := by
  refine ⟨⟨false, 12582912, -23, by decide +kernel, ?_⟩, ⟨false, 1, -149, by decide +kernel, ?_⟩,
    ⟨false, 6755399441055744, -52, by decide +kernel, ?_⟩, ⟨false, 1, -1074, by decide +kernel, ?_⟩, ?_, ?_, ?_, ?_⟩
  · norm_num
  · simp
  · norm_num
  · simp
  all_goals norm_num

theorem witness_RootsAndConversionsAreCorrectlyRounded :
    HasValue (value32 0x40100000#32) 2.25 ∧ (0 : ℝ) < 1.5 ∧ (1.5 : ℝ) * 1.5 = 2.25 ∧
      HasValue (value64 0x4002000000000000#64) 2.25 ∧ (2.25 : ℝ) ≠ 0 ∧ (-2 ^ 63 : Int) ≠ 0 ∧ (-2 ^ 63 : Int).natAbs ≤ 2 ^ 63 := by
  refine ⟨⟨false, 9437184, -22, by decide +kernel, ?_⟩, ?_, ?_, ⟨false, 5066549580791808, -51, by decide +kernel, ?_⟩, ?_, ?_, ?_⟩ <;>
    norm_num

/-- NaNs, infinities and zeros of either sign, and values of either sign, in both formats; a sum, a difference and a product of zero. -/
theorem witness_FloatingSpecialValues :
    (IsNaN32 0x7F800001#32 ∧ IsNaN64 0xFFFFFFFFFFFFFFFF#64) ∧
      (value32 0x7F800000#32 = .inf false ∧ value32 0xFF800000#32 = .inf true ∧
        value64 0x7FF0000000000000#64 = .inf false ∧ value64 0xFFF0000000000000#64 = .inf true) ∧
      (HasValue (value32 0) 0 ∧ HasValue (value32 0x80000000#32) 0 ∧ HasValue (value64 0) 0 ∧
        HasValue (value64 0x8000000000000000#64) 0) ∧
      (HasValue (value32 0x3F800000#32) 1 ∧ HasValue (value32 0xBF800000#32) (-1) ∧ HasValue (value64 0x3FF0000000000000#64) 1 ∧
        HasValue (value64 0xBFF0000000000000#64) (-1)) ∧
      (1 : ℝ) + (-1) = 0 ∧ (1 : ℝ) - 1 = 0 ∧ (0 : ℝ) * (-1) = 0 ∧ (-1 : ℝ) < 0 ∧ (1 : ℝ) ≠ 0 := by
  unfold IsNaN32 IsNaN64
  refine ⟨⟨by decide, by decide⟩, ⟨by decide +kernel, by decide +kernel, by decide +kernel, by decide +kernel⟩,
    ⟨⟨false, 0, -149, by decide +kernel, ?_⟩, ⟨true, 0, -149, by decide +kernel, ?_⟩, ⟨false, 0, -1074, by decide +kernel, ?_⟩,
      ⟨true, 0, -1074, by decide +kernel, ?_⟩⟩,
    ⟨⟨false, 8388608, -23, by decide +kernel, ?_⟩, ⟨true, 8388608, -23, by decide +kernel, ?_⟩,
      ⟨false, 4503599627370496, -52, by decide +kernel, ?_⟩, ⟨true, 4503599627370496, -52, by decide +kernel, ?_⟩⟩,
    ?_, ?_, ?_, ?_, ?_⟩ <;> norm_num

theorem witness_ConversionsComplete :
    (withStatus 0x30000000#32).cu1 = true ∧ (withStatus 0x30000000#32).validD 30 = true ∧ base.cu1 = true ∧ base.validD 31 = true := by
  decide

/-- -2^31 and -2^63 are in range, 2^31 and 2^63 are not, and an infinity has no value. -/
theorem witness_ConversionToIntegerIsExact :
    HasValue (sourceValue (.single 0xCF000000#32)) (-2 ^ 31) ∧ HasValue (sourceValue (.single 0x4F000000#32)) (2 ^ 31) ∧
      HasValue (sourceValue (.double 0xC3E0000000000000#64)) (-2 ^ 63) ∧
      HasValue (sourceValue (.double 0x43E0000000000000#64)) (2 ^ 63) ∧ (∀ x : ℝ, ¬HasValue (sourceValue (.single 0x7F800000#32)) x) := by
  refine ⟨⟨true, 8388608, 8, by decide +kernel, ?_⟩, ⟨false, 8388608, 8, by decide +kernel, ?_⟩,
    ⟨true, 4503599627370496, 11, by decide +kernel, ?_⟩, ⟨false, 4503599627370496, 11, by decide +kernel, ?_⟩, ?_⟩
  · norm_num
  · norm_num
  · norm_num
  · norm_num
  · rintro x ⟨neg, mag, exp, h, -⟩
    have hv : sourceValue (.single 0x7F800000#32) = .inf false := by decide +kernel
    rw [hv] at h
    cases h

/-- Operands of every clause in registers 2 and 4: two values, a NaN, two infinities. -/
theorem witness_ComparesWriteTheCondition :
    base.cu1 = true ∧ base.validD 4 = true ∧ base.validD 2 = true ∧
      HasValue (value32 ((fpS 0 0x3F800000 0x3F800000).readS 4)) 1 ∧ HasValue (value64 ((fpD 0 0x3FF0000000000000 0).readD 4)) 1 ∧
      IsNaN32 ((fpS 0 0x7F800001 0).readS 4) ∧ IsNaN64 ((fpD 0 0x7FF0000000000001 0).readD 4) ∧
      value32 ((fpS 0 0x7F800000 0xFF800000).readS 4) = .inf false ∧ value32 ((fpS 0 0x7F800000 0xFF800000).readS 2) = .inf true ∧
      value64 ((fpD 0 0x7FF0000000000000 0xFFF0000000000000).readD 4) = .inf false ∧
      value64 ((fpD 0 0x7FF0000000000000 0xFFF0000000000000).readD 2) = .inf true := by
  unfold IsNaN32 IsNaN64
  refine ⟨by decide, by decide, by decide, ⟨false, 8388608, -23, by decide +kernel, ?_⟩,
    ⟨false, 4503599627370496, -52, by decide +kernel, ?_⟩, by decide +kernel, by decide +kernel, by decide +kernel, by decide +kernel,
    by decide +kernel, by decide +kernel⟩ <;> norm_num

/-- LDC1 from an aligned address that translates; SDC1 to one, and to one that misses. -/
theorem witness_OddDoublesRefuse :
    let s := { pointing 0x80000000#32 with cp0 := (withStatus 0x30000000#32).cp0 }
    s.cu1 = true ∧ s.cp0.status.getLsbD 26 = false ∧ (31#5).getLsbD 0 = true ∧ (s.effAddr 1 0).toNat % 8 = 0 ∧
      s.translate .load (s.effAddr 1 0) = .ok 0 ∧ (s.effAddr 1 0xFFF8).toNat % 8 = 0 ∧
      s.translate .store (s.effAddr 1 0xFFF8) = .raise (.tlbMiss .store (s.effAddr 1 0xFFF8)) := by decide +kernel

theorem witness_StepKeepsMemoryWellFormed :
    (placed 0xAC220004#32).memCanonical ∧ (placed 0xAC220004#32).memInRange ∧ (∃ t, step (placed 0xAC220004#32) = .next t) ∧
      { placed 0xAC220004#32 with notRam := [{ base := 0, size := 8 }] }.isRam 7 = false := by
  refine ⟨?_, ?_, ⟨_, rfl⟩, rfl⟩
  · unfold State.memCanonical
    decide +kernel
  · unfold State.memInRange
    decide +kernel

theorem witness_StepKeepsReservedBitsZero :
    (placed 0x40825800#32).cp0.reservedZero ∧ (placed 0x40825800#32).sequenced ∧ ∃ t, step (placed 0x40825800#32) = .next t := by
  refine ⟨?_, ?_, _, rfl⟩
  · unfold Cop0.reservedZero
    decide +kernel
  · unfold State.sequenced
    decide +kernel

theorem witness_StepKeepsTheConstants :
    (∃ t, step (placed 0x44C2F800#32) = .next t) ∧ (placed 0x44C2F800#32).notRam = [] := ⟨⟨_, rfl⟩, rfl⟩

/-- A state in use that meets the premises, with a byte of memory and a device. -/
theorem witness_ResetMeetsTheInvariants : device.memCanonical ∧ device.memInRange ∧ device.mem ≠ [] ∧ device.notRam ≠ [] := by
  unfold State.memCanonical State.memInRange
  decide +kernel

theorem witness_ResetValues : State.reset.erl = true := by decide

theorem witness_UserModeCannotTouchTheSystem :
    user.cop0Usable = false ∧ (∃ t, exec .tlbwi user = .next t) ∧ ∃ t, exec (.addu 1 2 3) user = .next t :=
  ⟨by decide, ⟨_, rfl⟩, _, rfl⟩


end Sys2Proof.Tests
end

section
/-! PROOF. A write of Status, field by field: COP0 takes the word, and only the floating-point registers and the model's counter may
change with it (R58, R381). -/

namespace Sys2Proof.Machine

section writeStatusFields
variable (s : State) (v : Word)
@[simp] theorem writeStatus_npc : (writeStatus s v).npc = s.npc := by unfold writeStatus; dsimp only; split <;> rfl
@[simp] theorem writeStatus_x : (writeStatus s v).x = s.x := by unfold writeStatus; dsimp only; split <;> rfl
@[simp] theorem writeStatus_hi : (writeStatus s v).hi = s.hi := by unfold writeStatus; dsimp only; split <;> rfl
@[simp] theorem writeStatus_lo : (writeStatus s v).lo = s.lo := by unfold writeStatus; dsimp only; split <;> rfl
@[simp] theorem writeStatus_fcr0 : (writeStatus s v).fcr0 = s.fcr0 := by unfold writeStatus; dsimp only; split <;> rfl
@[simp] theorem writeStatus_fcr31 : (writeStatus s v).fcr31 = s.fcr31 := by unfold writeStatus; dsimp only; split <;> rfl
@[simp] theorem writeStatus_llbit : (writeStatus s v).llbit = s.llbit := by unfold writeStatus; dsimp only; split <;> rfl
@[simp] theorem writeStatus_stop : (writeStatus s v).stop = s.stop := by unfold writeStatus; dsimp only; split <;> rfl
@[simp] theorem writeStatus_tlb : (writeStatus s v).tlb = s.tlb := by unfold writeStatus; dsimp only; split <;> rfl
@[simp] theorem writeStatus_time : (writeStatus s v).time = s.time := by unfold writeStatus; dsimp only; split <;> rfl
@[simp] theorem writeStatus_queue : (writeStatus s v).queue = s.queue := by unfold writeStatus; dsimp only; split <;> rfl
@[simp] theorem writeStatus_mem : (writeStatus s v).mem = s.mem := by unfold writeStatus; dsimp only; split <;> rfl
@[simp] theorem writeStatus_notRam : (writeStatus s v).notRam = s.notRam := by unfold writeStatus; dsimp only; split <;> rfl
@[simp] theorem writeStatus_port : (writeStatus s v).port = s.port := by unfold writeStatus; dsimp only; split <;> rfl
@[simp] theorem writeStatus_cp0 : (writeStatus s v).cp0 = { s.cp0 with status := v } := rfl
end writeStatusFields

end Sys2Proof.Machine
end

section
/-! PROOF. Which COP0 bits a masked write, an exception entry, an event and the timer can set. -/

namespace Sys2Proof.Machine

/-! ### Masked words -/

theorem and_mask_clear (v : Word) {m n : Word} (h : m &&& n = 0) : v &&& m &&& n = 0 := by
  simp [BitVec.and_assoc, h]

theorem and_clear {v n : Word} (h : v &&& n = 0) (m : Word) : v &&& m &&& n = 0 := by
  rw [BitVec.and_assoc, BitVec.and_comm m n, ← BitVec.and_assoc, h]
  exact BitVec.zero_and

theorem or_clear {a b n : Word} (ha : a &&& n = 0) (hb : b &&& n = 0) : (a ||| b) &&& n = 0 := by
  simp [BitVec.and_or_distrib_right, ha, hb]

theorem replaceBits_clear {mask old n : Word} (hm : mask &&& n = 0) (ho : old &&& n = 0) (new : Word) :
    replaceBits mask new old &&& n = 0 :=
  or_clear (and_mask_clear new hm) (and_clear ho _)

/-- Index as MTC0 stores it (R370): bit 5 is kept by the mask and ruled out by the range check. -/
theorem index_clear {v : Word} (h : (v &&& 0x3F#32).toNat ≤ 31) : v &&& 0x8000003F#32 &&& 0x7FFFFFE0#32 = 0 := by
  have hmask : v &&& 0x8000003F#32 &&& 0x7FFFFFE0#32 = v &&& 0x3F#32 &&& 0x20#32 := by
    rw [BitVec.and_assoc, BitVec.and_assoc]; rfl
  have hbit : (v &&& 0x3F#32).toNat.testBit 5 = false := Nat.testBit_lt_two_pow (by omega)
  rw [hmask]
  apply BitVec.eq_of_toNat_eq
  rw [BitVec.toNat_and, show (0x20#32).toNat = 2 ^ 5 from rfl, Nat.and_two_pow, hbit]
  rfl

/-- The slot TLBP finds is one of the list's (R366). -/
theorem probeFrom_lt {eh : Word} {l : List TlbEntry} {k j : Nat} (h : probeFrom eh k l = some j) : j < k + l.length := by
  induction l generalizing k with
  | nil => cases h
  | cons e rest ih =>
    unfold probeFrom at h
    split at h
    · cases h; simp
    · have := ih h; simp only [List.length_cons]; omega

/-- A slot number is a clean Index (R31). -/
theorem slot_clear {k : Nat} (h : k < 32) : BitVec.ofNat 32 k &&& 0x7FFFFFE0#32 = 0 := by
  revert k; decide

/-- The EntryLo that TLBR reads back has bits 31:30 clear (R33, R363). -/
theorem entryLo_clear (e : TlbEntry) (odd : Bool) : e.entryLo odd &&& 0xC0000000#32 = 0 := by
  rw [TlbEntry.entryLo, show 0xC0000000#32 = 3#2 ++ 0#24 ++ 0#3 ++ 0#1 ++ 0#1 ++ 0#1 from rfl]
  rw [BitVec.and_append, BitVec.and_append, BitVec.and_append, BitVec.and_append, BitVec.and_append]
  simp

/-- The EntryHi that TLBR reads back has bits 12:8 clear (R39, R363). -/
theorem tag_clear (vpn2 : BitVec 19) (asid : BitVec 8) : vpn2 ++ 0#5 ++ asid &&& 0x00001F00#32 = 0 := by
  rw [show 0x00001F00#32 = 0#19 ++ 0x1F#5 ++ 0#8 from rfl, BitVec.and_append, BitVec.and_append]
  simp

/-- The PageMask that TLBR reads back has only its mask field (R35, R363). -/
theorem pageMask_clear (mask : BitVec 12) : 0#7 ++ mask ++ 0#13 &&& ~~~0x01FFE000#32 = 0 := by
  rw [show ~~~0x01FFE000#32 = 0x7F#7 ++ 0#12 ++ 0x1FFF#13 from rfl, BitVec.and_append, BitVec.and_append]
  simp

/-- Interrupt lines lie inside the bits of Cause that exist (R42, R565). -/
theorem eventLines_clear (l : BitVec 5) : l.setWidth 32 <<< 10 &&& ~~~0xB000FC7C#32 = 0 := by
  revert l; decide

end Sys2Proof.Machine
end

section
/-! PROOF. What every write of the COP0 registers keeps: the reserved bits stay zero, the cells that nothing writes stay. -/

namespace Sys2Proof.Machine

/-- The cells of COP0 that nothing writes (R44, R46, R48, R49, R51, R52). -/
def Cop0.fixedCells (c : Cop0) : List Word :=
  [c.prid, c.llAddr, c.xContext, c.pErr, c.cacheErr, c.errorEpc, c.reg7, c.reg21, c.reg22, c.reg23, c.reg24, c.reg25, c.reg31]

/-- From `c` to `d` the bits that no write can set stay zero, and the cells that nothing writes are the same. -/
structure Cop0.Keeps (c d : Cop0) : Prop where
  reserved : c.reservedZero → d.reservedZero
  fixed : d.fixedCells = c.fixedCells

theorem Cop0.Keeps.refl (c : Cop0) : c.Keeps c := ⟨id, rfl⟩

theorem Cop0.Keeps.of_eq {c d : Cop0} (h : d = c) : c.Keeps d := h ▸ .refl c

theorem Cop0.Keeps.trans {a b c : Cop0} (h : a.Keeps b) (k : b.Keeps c) : a.Keeps c :=
  ⟨fun ha => k.reserved (h.reserved ha), k.fixed.trans h.fixed⟩

/-! ### One rule per register that has reserved bits -/

section cells
variable (c : Cop0) {v : Word}

theorem Cop0.keeps_index (hv : c.index &&& 0x7FFFFFE0#32 = 0 → v &&& 0x7FFFFFE0#32 = 0) : c.Keeps { c with index := v } where
  reserved := fun ⟨hIndex, hLo0, hLo1, hContext, hMask, hWired, hHi, hCause, hTagLo, hTagHi⟩ =>
    ⟨hv hIndex, hLo0, hLo1, hContext, hMask, hWired, hHi, hCause, hTagLo, hTagHi⟩
  fixed := rfl

theorem Cop0.keeps_entryLo0 (hv : v &&& 0xC0000000#32 = 0) : c.Keeps { c with entryLo0 := v } where
  reserved := fun ⟨hIndex, _, hLo1, hContext, hMask, hWired, hHi, hCause, hTagLo, hTagHi⟩ =>
    ⟨hIndex, hv, hLo1, hContext, hMask, hWired, hHi, hCause, hTagLo, hTagHi⟩
  fixed := rfl

theorem Cop0.keeps_entryLo1 (hv : v &&& 0xC0000000#32 = 0) : c.Keeps { c with entryLo1 := v } where
  reserved := fun ⟨hIndex, hLo0, _, hContext, hMask, hWired, hHi, hCause, hTagLo, hTagHi⟩ =>
    ⟨hIndex, hLo0, hv, hContext, hMask, hWired, hHi, hCause, hTagLo, hTagHi⟩
  fixed := rfl

theorem Cop0.keeps_context (hv : c.context &&& 0x0000000F#32 = 0 → v &&& 0x0000000F#32 = 0) :
    c.Keeps { c with context := v } where
  reserved := fun ⟨hIndex, hLo0, hLo1, hContext, hMask, hWired, hHi, hCause, hTagLo, hTagHi⟩ =>
    ⟨hIndex, hLo0, hLo1, hv hContext, hMask, hWired, hHi, hCause, hTagLo, hTagHi⟩
  fixed := rfl

theorem Cop0.keeps_pageMask (hv : v &&& ~~~0x01FFE000#32 = 0) : c.Keeps { c with pageMask := v } where
  reserved := fun ⟨hIndex, hLo0, hLo1, hContext, _, hWired, hHi, hCause, hTagLo, hTagHi⟩ =>
    ⟨hIndex, hLo0, hLo1, hContext, hv, hWired, hHi, hCause, hTagLo, hTagHi⟩
  fixed := rfl

theorem Cop0.keeps_wired (hv : v &&& ~~~0x0000003F#32 = 0) : c.Keeps { c with wired := v } where
  reserved := fun ⟨hIndex, hLo0, hLo1, hContext, hMask, _, hHi, hCause, hTagLo, hTagHi⟩ =>
    ⟨hIndex, hLo0, hLo1, hContext, hMask, hv, hHi, hCause, hTagLo, hTagHi⟩
  fixed := rfl

theorem Cop0.keeps_entryHi (hv : c.entryHi &&& 0x00001F00#32 = 0 → v &&& 0x00001F00#32 = 0) :
    c.Keeps { c with entryHi := v } where
  reserved := fun ⟨hIndex, hLo0, hLo1, hContext, hMask, hWired, hHi, hCause, hTagLo, hTagHi⟩ =>
    ⟨hIndex, hLo0, hLo1, hContext, hMask, hWired, hv hHi, hCause, hTagLo, hTagHi⟩
  fixed := rfl

theorem Cop0.keeps_cause (hv : c.cause &&& ~~~0xB000FC7C#32 = 0 → v &&& ~~~0xB000FC7C#32 = 0) :
    c.Keeps { c with cause := v } where
  reserved := fun ⟨hIndex, hLo0, hLo1, hContext, hMask, hWired, hHi, hCause, hTagLo, hTagHi⟩ =>
    ⟨hIndex, hLo0, hLo1, hContext, hMask, hWired, hHi, hv hCause, hTagLo, hTagHi⟩
  fixed := rfl

theorem Cop0.keeps_tagLo (hv : v &&& ~~~0x0FFFFFC0#32 = 0) : c.Keeps { c with tagLo := v } where
  reserved := fun ⟨hIndex, hLo0, hLo1, hContext, hMask, hWired, hHi, hCause, _, hTagHi⟩ =>
    ⟨hIndex, hLo0, hLo1, hContext, hMask, hWired, hHi, hCause, hv, hTagHi⟩
  fixed := rfl

theorem Cop0.keeps_tagHi : c.Keeps { c with tagHi := 0 } where
  reserved := fun ⟨hIndex, hLo0, hLo1, hContext, hMask, hWired, hHi, hCause, hTagLo, _⟩ =>
    ⟨hIndex, hLo0, hLo1, hContext, hMask, hWired, hHi, hCause, hTagLo, rfl⟩
  fixed := rfl

end cells

/-! ### The writes made of several cells -/

/-- TLBR writes four registers from an entry (R363). -/
theorem Cop0.keeps_loadEntry (c : Cop0) (e : TlbEntry) : c.Keeps (c.loadEntry e) :=
  (c.keeps_pageMask (pageMask_clear e.mask)).trans <|
    (Cop0.keeps_entryHi _ fun _ => tag_clear e.vpn2 e.asid).trans <|
      (Cop0.keeps_entryLo0 _ (entryLo_clear e false)).trans (Cop0.keeps_entryLo1 _ (entryLo_clear e true))

/-- Every event touches only the interrupt lines of Cause (R565). -/
theorem Event.apply_clear {cause : Word} (h : cause &&& ~~~0xB000FC7C#32 = 0) (ev : Event) :
    ev.apply cause &&& ~~~0xB000FC7C#32 = 0 :=
  and_clear (or_clear h (eventLines_clear ev.set)) _

/-- Delivering the due events (R565). -/
theorem State.keeps_deliverEvents_cp0 (s : State) : s.cp0.Keeps s.deliverEvents.cp0 :=
  s.cp0.keeps_cause fun h =>
    List.foldlRecOn (motive := fun cause => cause &&& ~~~0xB000FC7C#32 = 0) _ _ h fun _ hc ev _ => Event.apply_clear hc ev

/-- The timer sets Cause bit 15 (R563). -/
theorem State.keeps_advanceTime_cp0 (s : State) : s.cp0.Keeps s.advanceTime.cp0 := by
  refine Cop0.Keeps.trans (b := { s.cp0 with count := s.cp0.count + BitVec.ofNat 32 Config.countPerOp }) ⟨id, rfl⟩
    (Cop0.keeps_cause _ fun h => ?_)
  split
  · exact or_clear h (by decide)
  · exact h

/-- An exception writes the code and CE inside the bits of Cause that exist (R541, R542). -/
theorem entryCode_clear {old : Word} (h : old &&& ~~~0xB000FC7C#32 = 0) (e : Exc) :
    entryCode e old &&& ~~~0xB000FC7C#32 = 0 := by
  unfold entryCode
  refine replaceBits_clear (by decide) ?_ _
  cases e with
  | coprocessorUnusable n => exact replaceBits_clear (by decide) h _
  | _ => exact h

theorem entryContext_clear {old : Word} (h : old &&& 0x0000000F#32 = 0) (e : Exc) :
    entryContext e old &&& 0x0000000F#32 = 0 := by
  cases e with
  | tlbMiss dir va => exact replaceBits_clear (by decide) h _
  | _ => exact h

theorem entryEntryHi_clear {old : Word} (h : old &&& 0x00001F00#32 = 0) (e : Exc) :
    entryEntryHi e old &&& 0x00001F00#32 = 0 := by
  cases e with
  | tlbMiss dir va => exact replaceBits_clear (by decide) h _
  | _ => exact h

/-- Exception entry (R542, R544). -/
theorem State.keeps_entryCop0 (s : State) (e : Exc) : s.cp0.Keeps (s.entryCop0 e) := by
  have hCause : s.cp0.cause &&& ~~~0xB000FC7C#32 = 0 →
      (if s.exl then entryCode e s.cp0.cause
        else replaceBits 0x80000000#32 (if s.ds then 0x80000000#32 else 0) (entryCode e s.cp0.cause))
        &&& ~~~0xB000FC7C#32 = 0 := by
    intro h
    split
    · exact entryCode_clear h e
    · exact replaceBits_clear (by decide) (entryCode_clear h e) _
  have hFree : s.cp0.Keeps { s.cp0 with
      badVAddr := (s.entryCop0 e).badVAddr, epc := (s.entryCop0 e).epc, status := (s.entryCop0 e).status } := ⟨id, rfl⟩
  exact hFree.trans <| (Cop0.keeps_context _ fun h => entryContext_clear h e).trans <|
    (Cop0.keeps_entryHi _ fun h => entryEntryHi_clear h e).trans (Cop0.keeps_cause _ hCause)

/-! ### The instructions that write COP0 cells -/

/-- MTC0, target by target in the order of `writeCop0`'s arms (R362, R370 to R391); the arms left to the end write nothing, or a register
without reserved bits. -/
theorem writeCop0_keeps {s t : State} {rd : RegNum} {v : Word} (h : writeCop0 s rd v = .next t) : s.cp0.Keeps t.cp0 := by
  unfold writeCop0 at h
  split at h
  case h_1 =>
    unfold writeIndex at h
    split at h
    · cases h
    · rename_i hv
      obtain rfl := finish_next.1 h
      exact s.cp0.keeps_index fun _ => index_clear (by omega)
  case h_3 => obtain rfl := finish_next.1 h; exact s.cp0.keeps_entryLo0 (and_mask_clear v (by decide))
  case h_4 => obtain rfl := finish_next.1 h; exact s.cp0.keeps_entryLo1 (and_mask_clear v (by decide))
  case h_5 =>
    obtain rfl := finish_next.1 h
    exact s.cp0.keeps_context fun _ => or_clear (and_mask_clear v (by decide)) (and_mask_clear _ (by decide))
  case h_6 => obtain rfl := finish_next.1 h; exact s.cp0.keeps_pageMask (and_mask_clear v (by decide))
  case h_7 => obtain rfl := finish_next.1 h; exact s.cp0.keeps_wired (and_mask_clear v (by decide))
  case h_10 => obtain rfl := finish_next.1 h; exact s.cp0.keeps_entryHi fun _ => and_mask_clear v (by decide)
  case h_11 =>
    obtain rfl := finish_next.1 h
    exact (s.cp0.keeps_cause fun h => and_clear h _).trans ⟨id, rfl⟩
  case h_12 =>
    obtain rfl := finish_next.1 h
    exact ⟨id, rfl⟩
  case h_13 =>
    unfold writeCause at h
    split at h
    · obtain rfl := finish_next.1 h
      exact s.cp0.keeps_cause fun _ => rfl
    · cases h
  case h_20 => obtain rfl := finish_next.1 h; exact s.cp0.keeps_tagLo (and_mask_clear v (by decide))
  case h_21 => obtain rfl := finish_next.1 h; exact s.cp0.keeps_tagHi
  case h_22 => cases h
  all_goals
    obtain rfl := finish_next.1 h
    exact ⟨id, rfl⟩

/-- TLBP writes a slot number, or the old Index with bit 31 set (R366). -/
theorem Cop0.keeps_probe (c : Cop0) (tlb : Vector TlbEntry 32) :
    c.Keeps { c with
      index := match probeFrom c.entryHi 0 tlb.toList with
        | some i => BitVec.ofNat 32 i
        | none => c.index ||| 0x80000000#32 } := by
  refine c.keeps_index fun hi => ?_
  split
  · rename_i hp
    exact slot_clear (by simpa using probeFrom_lt hp)
  · exact or_clear hi (by decide)

/-- The instructions whose COP0 write `Effect.cop0` does not spell out. -/
theorem exec_keeps_cop0Cells {i : Instr} {s t : State} (hi : writesCop0Cells i = true) (h : exec i s = .next t) :
    s.cp0.Keeps t.cp0 := by
  cases i with
  | mtc0 rt rd =>
    rcases whenCop0_next h with ⟨-, h⟩ | ⟨-, rfl⟩
    · exact writeCop0_keeps h
    · exact s.keeps_entryCop0 _
  | tlbr =>
    rcases whenCop0_next h with ⟨-, h⟩ | ⟨-, rfl⟩
    · obtain rfl := finish_next.1 h
      exact s.cp0.keeps_loadEntry _
    · exact s.keeps_entryCop0 _
  | tlbp =>
    rcases whenCop0_next h with ⟨-, h⟩ | ⟨-, rfl⟩
    · obtain rfl := finish_next.1 h
      exact s.cp0.keeps_probe s.tlb
    · exact s.keeps_entryCop0 _
  | _ => cases hi

end Sys2Proof.Machine
end

section
/-! PROOF. What a step is made of, and what each part of it keeps: one relation from a state to a later one, closed under
composition, whose clauses are the invariants of StepKeepsReservedBitsZero and StepKeepsTheConstants. -/

namespace Sys2Proof.Machine

/-! ### One step, taken apart (R26) -/

/-- A step that answers a state takes an interrupt, handles an exception of the fetch, or runs one instruction. -/
theorem step_next {s t : State} (h : step s = .next t) :
    t = s.deliverEvents.exceptionEntry .interrupt ∨
    (∃ e, t = (s.deliverEvents.exceptionEntry e).advanceTime) ∨
    ∃ pa i u, exec i (s.deliverEvents.afterRead pa 4) = .next u ∧ t = u.advanceTime := by
  unfold step at h
  split at h
  · cases h
  unfold boundaryAndRun at h
  split at h
  · cases h; exact .inl rfl
  unfold runInstruction at h
  split at h
  · rename_i w u hf
    obtain ⟨-, pa, -, hr⟩ := State.fetch_inv hf
    obtain ⟨rfl, rfl⟩ := Prod.mk.inj hr
    unfold runWord at h
    split at h
    · rename_i i hd
      unfold tick at h
      split at h
      · rename_i u hu; cases h; exact .inr (.inr ⟨pa, i, u, hu, rfl⟩)
      · cases h
      · cases h
    · cases h
  · cases h; exact .inr (.inl ⟨_, rfl⟩)
  · cases h

/-! ### The relation -/

/-- What no instruction changes but through the memory port: fcr0, the hidden time, the halt flag, the declaration of RAM, the port
transcript. -/
def State.backdrop (s : State) : Word × Nat × Bool × List Region × List PortEvent :=
  (s.fcr0, s.time, s.stop, s.notRam, s.port)

/-- From `s` to `t` the COP0 laws and the sequencing law are kept, the constants stay, time and the port transcript only grow. -/
structure State.Keeps (s t : State) : Prop where
  cp0 : s.cp0.Keeps t.cp0
  sequenced : s.sequenced → t.sequenced
  fcr0 : t.fcr0 = s.fcr0
  time : s.time ≤ t.time
  stop : t.stop = s.stop
  notRam : t.notRam = s.notRam
  port : ∃ l, t.port = l ++ s.port
  portRam : s.notRam = [] → t.port = s.port

theorem State.Keeps.trans {a b c : State} (h : a.Keeps b) (k : b.Keeps c) : a.Keeps c where
  cp0 := h.cp0.trans k.cp0
  sequenced := fun ha => k.sequenced (h.sequenced ha)
  fcr0 := k.fcr0.trans h.fcr0
  time := h.time.trans k.time
  stop := k.stop.trans h.stop
  notRam := k.notRam.trans h.notRam
  port := by
    obtain ⟨l, hl⟩ := h.port
    obtain ⟨m, hm⟩ := k.port
    exact ⟨m ++ l, by rw [hm, hl, List.append_assoc]⟩
  portRam := fun hn => (k.portRam (h.notRam.trans hn)).trans (h.portRam hn)

/-- A change of COP0 and of fields that the relation does not speak of. -/
theorem State.Keeps.of_backdrop {s t : State} (hc : s.cp0.Keeps t.cp0) (h : t.backdrop = s.backdrop)
    (hs : s.sequenced → t.sequenced) : s.Keeps t := by
  simp only [State.backdrop, Prod.mk.injEq] at h
  obtain ⟨hfcr0, htime, hstop, hnotRam, hport⟩ := h
  exact ⟨hc, hs, hfcr0, htime.ge, hstop, hnotRam, ⟨[], hport⟩, fun _ => hport⟩

/-- A transaction of the memory port (R85, log 30). -/
theorem State.Keeps.of_portAfter {s t : State} {pa : Word} {n : Nat} {ev : PortEvent} (hport : t.port = s.portAfter pa n ev)
    (hc : t.cp0 = s.cp0) (hs : s.sequenced → t.sequenced) (h : { t with port := s.port }.backdrop = s.backdrop) :
    s.Keeps t := by
  simp only [State.backdrop, Prod.mk.injEq] at h
  obtain ⟨hfcr0, htime, hstop, hnotRam, -⟩ := h
  refine ⟨.of_eq hc, hs, hfcr0, htime.ge, hstop, hnotRam, ?_, fun hn => ?_⟩
  · rcases s.portAfter_cases pa n ev with h | ⟨h, -⟩
    · exact ⟨[], hport.trans h⟩
    · exact ⟨[ev], hport.trans h⟩
  · rcases s.portAfter_cases pa n ev with h | ⟨-, h⟩
    · exact hport.trans h
    · exact absurd hn h

/-- After the sequential default the next instruction is at `pc + 4` (R25, R26). -/
theorem State.sequenced_advance (s : State) : s.advance.sequenced := fun _ => rfl

/-- An update that leaves COP0 and the backdrop alone, and then the sequential advance. -/
theorem State.Keeps.advance {s u : State} (hc : u.cp0 = s.cp0) (h : u.backdrop = s.backdrop) : s.Keeps u.advance :=
  .of_backdrop (.of_eq hc) h fun _ => u.sequenced_advance

/-! ### The operations of a step -/

section operations
variable (s : State)

theorem State.keeps_deliverEvents : s.Keeps s.deliverEvents := .of_backdrop s.keeps_deliverEvents_cp0 rfl id

theorem State.keeps_advanceTime : s.Keeps s.advanceTime :=
  ⟨s.keeps_advanceTime_cp0, id, rfl, Nat.le_add_right _ _, rfl, rfl, ⟨[], rfl⟩, fun _ => rfl⟩

theorem State.keeps_exceptionEntry (e : Exc) : s.Keeps (s.exceptionEntry e) :=
  .of_backdrop (s.keeps_entryCop0 e) rfl fun _ _ => rfl

theorem State.keeps_afterRead (pa : Word) (n : Nat) : s.Keeps (s.afterRead pa n) := .of_portAfter rfl rfl id rfl

theorem State.keeps_physWrite (pa : Word) (n : Nat) (v : Dword) : s.Keeps (s.physWrite pa n v) :=
  .of_portAfter rfl rfl id rfl

end operations

/-- Every instruction that answers a state. -/
theorem exec_keeps {i : Instr} {s t : State} (h : exec i s = .next t) : s.Keeps t := by
  cases exec_effect h with
  | entry e => exact s.keeps_exceptionEntry e
  | nothing => exact .advance rfl rfl
  | reg rd v => exact .advance (by simp) (by simp [State.backdrop])
  | freeRead rd v => exact .advance (by simp) (by simp [State.backdrop])
  | load va pa n rd v => exact (s.keeps_afterRead pa n).trans (.advance (by simp) (by simp [State.backdrop]))
  | loadS va pa n fd v => exact (s.keeps_afterRead pa n).trans (.advance (by simp) (by simp [State.backdrop]))
  | loadD va pa n fd v => exact (s.keeps_afterRead pa n).trans (.advance rfl rfl)
  | link va pa n rd v => exact (s.keeps_afterRead pa n).trans (.advance (by simp) (by simp [State.backdrop]))
  | store va pa n v => exact (s.keeps_physWrite pa n v).trans (.advance rfl rfl)
  | storeCond va pa rt n => exact (s.keeps_physWrite pa n (s.readX rt)).trans (.advance (by simp) (by simp [State.backdrop]))
  | hiLo l h => exact .advance rfl rfl
  | fpS fd v => exact .advance (by simp) (by simp [State.backdrop])
  | fpD fd v => exact .advance rfl rfl
  | condition c => exact .advance rfl rfl
  | control v => exact .advance rfl rfl
  | jump pc npc ds hd =>
    exact .of_backdrop (.refl _) rfl fun _ h => hd.resolve_left (by simpa using h)
  | jumpLink rd v pc npc ds hd =>
    exact .of_backdrop (.of_eq (by simp)) (by simp [State.backdrop]) fun _ h => hd.resolve_left (by simpa using h)
  | ret => exact .of_backdrop ⟨id, rfl⟩ rfl fun _ _ => rfl
  | tlb k => exact .advance rfl rfl
  | cop0 c hu hi => exact .of_backdrop (exec_keeps_cop0Cells hi h) rfl fun _ => State.sequenced_advance _
  | status v => exact .of_backdrop ⟨id, rfl⟩ (by simp [State.backdrop]) fun _ => State.sequenced_advance _

/-- Every step that answers a state. -/
theorem step_keeps {s t : State} (h : step s = .next t) : s.Keeps t := by
  rcases step_next h with rfl | ⟨e, rfl⟩ | ⟨pa, i, u, hu, rfl⟩
  · exact s.keeps_deliverEvents.trans (State.keeps_exceptionEntry _ _)
  · exact s.keeps_deliverEvents.trans ((State.keeps_exceptionEntry _ e).trans (State.keeps_advanceTime _))
  · exact s.keeps_deliverEvents.trans ((State.keeps_afterRead _ pa 4).trans ((exec_keeps hu).trans u.keeps_advanceTime))

/-- The constants of the statement, from COP0's fixed cells and fcr0. -/
theorem State.Keeps.sameConstants {s t : State} (h : s.Keeps t) : State.sameConstants s t := by
  have hCells := h.cp0.fixed
  simp only [Cop0.fixedCells, List.cons.injEq, and_true] at hCells
  obtain ⟨hPrid, hRest⟩ := hCells
  exact ⟨hPrid, h.fcr0, hRest⟩

/-! ### The obligations -/

/-- Settles O56: the COP0 cells and the sequencing of `State.Keeps`, which every step keeps. -/
theorem stepKeepsReservedBitsZero : Obligations.StepKeepsReservedBitsZero := by
  intro s t hCells hSeq h
  have hKeeps := step_keeps h
  exact ⟨hKeeps.cp0.reserved hCells, hKeeps.sequenced hSeq⟩

/-- Settles O57: the remaining clauses of `State.Keeps`, which every step keeps. -/
theorem stepKeepsTheConstants : Obligations.StepKeepsTheConstants := by
  intro s t h
  have hKeeps := step_keeps h
  exact ⟨hKeeps.sameConstants, hKeeps.time, hKeeps.stop, hKeeps.notRam, hKeeps.port, hKeeps.portRam⟩

end Sys2Proof.Machine
end

section
/-! PROOF. The single views across a change of FR (R58). -/

namespace Sys2Proof.Machine

/-- An odd register number is an odd number (R57). -/
theorem toNat_mod_two (i : RegNum) : i.toNat % 2 = if oddReg i then 1 else 0 := by
  revert i; decide

/-- The odd register of a pair follows its even one (R57). -/
theorem toNat_pairBase {i : RegNum} (h : oddReg i = true) : (pairBase i).toNat + 1 = i.toNat := by
  revert i; decide

/-- A register of the reshuffled file towards FR = 1: each holds its own single in its low half. -/
theorem State.low32_reshuffled_true (s : State) (i : RegNum) :
    low32 (s.reshuffled true i.toNat) = s.readSUnder false i := by
  simp only [State.reshuffled, if_true, low32_append, BitVec.ofNat_toNat, BitVec.setWidth_eq, Bool.not_true]

/-- An even register of the reshuffled file towards FR = 0: the pair's two singles. -/
theorem State.reshuffled_false_even (s : State) {i : RegNum} (h : oddReg i = false) :
    s.reshuffled false i.toNat = s.readSUnder true (BitVec.ofNat 5 (i.toNat + 1)) ++ s.readSUnder true i := by
  have hk : i.toNat % 2 = 0 := by simp [toNat_mod_two, h]
  simp only [State.reshuffled, Bool.false_eq_true, if_false, hk, if_true, BitVec.ofNat_toNat, BitVec.setWidth_eq, Bool.not_false]

/-- Every single view survives a change of FR, read under the new FR (R58). -/
theorem State.readSUnder_reshuffle (s : State) (b : Bool) (i : RegNum) :
    (s.reshuffle b).readSUnder b i = s.readSUnder (!b) i := by
  unfold State.readSUnder
  simp only [State.readFgr_reshuffle]
  cases b with
  | true => exact s.low32_reshuffled_true i
  | false =>
    cases ho : oddReg i with
    | false => rw [s.reshuffled_false_even ho]; exact low32_append _ _
    | true =>
      rw [s.reshuffled_false_even (oddReg_pairBase i), toNat_pairBase ho, BitVec.ofNat_toNat, BitVec.setWidth_eq]
      exact high32_append _ _

/-- The single views are read from the registers and FR alone. -/
theorem State.readS_eq_readSUnder {s t : State} (h : t.fgr = s.fgr) (i : RegNum) : t.readS i = s.readSUnder t.fr i := by
  unfold State.readS State.readSUnder; simp only [State.readFgr_congr h]

/-- After a write of Status FR is bit 26 of the word (R41, R381). -/
theorem writeStatus_fr (s : State) (v : Word) : (writeStatus s v).fr = v.getLsbD 26 := rfl

/-- A write of Status with FR as it is changes no floating-point register. -/
theorem writeStatus_fgr_same {s : State} {v : Word} (h : v.getLsbD 26 = s.fr) : (writeStatus s v).fgr = s.fgr := by
  unfold writeStatus; dsimp only
  rw [h, bne_self_eq_false, if_neg Bool.false_ne_true]

/-- A write of Status that changes FR reshuffles the floating-point registers. -/
theorem writeStatus_fgr_changed {s : State} {v : Word} (h : v.getLsbD 26 ≠ s.fr) :
    (writeStatus s v).fgr = (s.reshuffle (v.getLsbD 26)).fgr := by
  unfold writeStatus; dsimp only
  rw [if_pos (bne_iff_ne.2 (Ne.symm h))]

/-- A write of Status keeps every single view (R58, R381). -/
theorem readS_writeStatus (s : State) (v : Word) (i : RegNum) : (writeStatus s v).readS i = s.readS i := by
  by_cases h : v.getLsbD 26 = s.fr
  · rw [State.readS_eq_readSUnder (writeStatus_fgr_same h), writeStatus_fr, h]; rfl
  · have hfr : (!v.getLsbD 26) = s.fr := by rw [Bool.eq_not_of_ne h, Bool.not_not]
    rw [State.readS_eq_readSUnder (writeStatus_fgr_changed h), writeStatus_fr, State.readSUnder_reshuffle, hfr]; rfl

/-- MTC0 to Status, where COP0 is usable (R381). -/
theorem exec_mtc0_status {s : State} (hu : s.cop0Usable = true) (rt : RegNum) :
    exec (.mtc0 rt 12) s = finish (writeStatus s (s.readW rt)) :=
  whenCop0_usable hu _

/-- Settles O16: the views by `readS_writeStatus`, the rest field by field. -/
theorem statusWriteKeepsEverySingleView : Obligations.StatusWriteKeepsEverySingleView := by
  intro s rt hu
  refine ⟨_, exec_mtc0_status hu rt, rfl, fun r => ?_, fun hfr => ?_, by simp, by simp, by simp,
    fun r => State.readX_congr (by simp) r, ⟨by simp, by simp⟩, by simp, by simp, by simp, by simp, by simp, by simp,
    fun a => by simp, ⟨by simp, by simp, by simp⟩⟩
  · rw [State.readS_congr (State.advance_fgr _) (State.advance_cp0 _)]
    exact readS_writeStatus s _ r
  · exact writeStatus_fgr_same hfr

end Sys2Proof.Machine
end

section
/-! PROOF. LLbit over all instructions (R63, R112). -/

namespace Sys2Proof.Machine

theorem isLoadLinked_iff {i : Instr} : isLoadLinked i = true ↔ ∃ b r imm, i = .ll b r imm ∨ i = .lld b r imm := by
  constructor
  · intro h
    cases i with
    | ll b r imm => exact ⟨b, r, imm, .inl rfl⟩
    | lld b r imm => exact ⟨b, r, imm, .inr rfl⟩
    | _ => cases h
  · rintro ⟨b, r, imm, rfl | rfl⟩ <;> rfl

theorem isStoreConditional_iff {i : Instr} : isStoreConditional i = true ↔ ∃ b r imm, i = .sc b r imm ∨ i = .scd b r imm := by
  constructor
  · intro h
    cases i with
    | sc b r imm => exact ⟨b, r, imm, .inl rfl⟩
    | scd b r imm => exact ⟨b, r, imm, .inr rfl⟩
    | _ => cases h
  · rintro ⟨b, r, imm, rfl | rfl⟩ <;> rfl

/-- What an instruction does to LLbit: nothing, unless it is a load linked, a store conditional or ERET. -/
theorem exec_llbit {i : Instr} {s t : State} (h : exec i s = .next t) :
    t.llbit = s.llbit ∨ (isLoadLinked i = true ∧ t.llbit = true) ∨
      ((isStoreConditional i = true ∨ i = .eret) ∧ t.llbit = false) := by
  cases exec_effect h with
  | link va pa n rd v hi => exact .inr (.inl ⟨hi, rfl⟩)
  | storeCond va pa rt n hi => exact .inr (.inr ⟨.inl hi, rfl⟩)
  | ret hu hi => exact .inr (.inr ⟨.inr hi, rfl⟩)
  | _ => exact .inl (by simp)

/-- Settles O30: LLbit rises only where `exec_llbit` answers true, and falls only where it answers false. -/
theorem linkBitLifecycle : Obligations.LinkBitLifecycle := by
  intro i s t h
  constructor
  · intro hs ht
    rcases exec_llbit h with hSame | ⟨hi, -⟩ | ⟨-, hFalse⟩
    · rw [hSame, hs] at ht; cases ht
    · exact isLoadLinked_iff.1 hi
    · rw [hFalse] at ht; cases ht
  · intro hs ht
    rcases exec_llbit h with hSame | ⟨-, hTrue⟩ | ⟨hi | hi, -⟩
    · rw [hSame, hs] at ht; cases ht
    · rw [hTrue] at ht; cases ht
    · exact .inr (isStoreConditional_iff.1 hi)
    · exact .inl hi

end Sys2Proof.Machine
end

section
/-! PROOF. An odd register in the double view with FR = 0 (R57): where each shape of a meaning meets its operand test. -/

namespace Sys2Proof.Machine

/-- With FR = 0 the double view of an odd register is no operand (R57). -/
theorem State.validD_eq_false {s : State} {r : RegNum} (hfr : s.cp0.status.getLsbD 26 = false) (hr : r.getLsbD 0 = true) :
    s.validD r = false := by
  unfold State.validD State.fr State.statusBit oddReg
  rw [hfr, hr]; rfl

/-- The test of one operand does not hide the refusal of a later one. -/
theorem whenD_refused {s : State} {i : RegNum} {k : Result} (h : k = .refused .oddDouble) :
    whenD s i k = .refused .oddDouble := by
  cases hv : s.validD i
  · exact whenD_odd hv k
  · rw [whenD_valid hv, h]

section shapes
variable {s : State} {r : RegNum} (hu : s.cu1 = true) (hr : s.validD r = false)
include hu hr

theorem binaryD_odd_fs (q b : RegNum) (op : RoundMode → Dword → Dword → Dword) :
    binaryD s r q b op = .refused .oddDouble :=
  (whenCop1_usable hu _).trans (whenD_odd hr _)

theorem binaryD_odd_ft (q b : RegNum) (op : RoundMode → Dword → Dword → Dword) :
    binaryD s q r b op = .refused .oddDouble :=
  (whenCop1_usable hu _).trans (whenD_refused (whenD_odd hr _))

theorem binaryD_odd_fd (q b : RegNum) (op : RoundMode → Dword → Dword → Dword) :
    binaryD s q b r op = .refused .oddDouble :=
  (whenCop1_usable hu _).trans (whenD_refused (whenD_refused (whenD_odd hr _)))

theorem unaryD_odd_fs (q : RegNum) (op : Dword → Dword) : unaryD s r q op = .refused .oddDouble :=
  (whenCop1_usable hu _).trans (whenD_odd hr _)

theorem unaryD_odd_fd (q : RegNum) (op : Dword → Dword) : unaryD s q r op = .refused .oddDouble :=
  (whenCop1_usable hu _).trans (whenD_refused (whenD_odd hr _))

theorem convertDtoS_odd (q : RegNum) (op : Dword → Word) : convertDtoS s r q op = .refused .oddDouble :=
  (whenCop1_usable hu _).trans (whenD_odd hr _)

theorem convertStoD_odd (q : RegNum) (op : Word → Dword) : convertStoD s q r op = .refused .oddDouble :=
  (whenCop1_usable hu _).trans (whenD_odd hr _)

theorem convertDtoD_odd_fs (q : RegNum) (op : Dword → Dword) : convertDtoD s r q op = .refused .oddDouble :=
  (whenCop1_usable hu _).trans (whenD_odd hr _)

theorem convertDtoD_odd_fd (q : RegNum) (op : Dword → Dword) : convertDtoD s q r op = .refused .oddDouble :=
  (whenCop1_usable hu _).trans (whenD_refused (whenD_odd hr _))

theorem compareD_odd_fs (cond : BitVec 4) (q : RegNum) : compareD s cond r q = .refused .oddDouble :=
  (whenCop1_usable hu _).trans (whenD_odd hr _)

theorem compareD_odd_ft (cond : BitVec 4) (q : RegNum) : compareD s cond q r = .refused .oddDouble :=
  (whenCop1_usable hu _).trans (whenD_refused (whenD_odd hr _))

theorem exec_dmfc1_odd (b : RegNum) : exec (.dmfc1 b r) s = .refused .oddDouble :=
  (whenCop1_usable hu _).trans (whenD_odd hr _)

theorem exec_dmtc1_odd (b : RegNum) : exec (.dmtc1 b r) s = .refused .oddDouble :=
  (whenCop1_usable hu _).trans (whenD_odd hr _)

/-- LDC1 tests its operand after the alignment test and the read (R412, R554). -/
theorem exec_ldc1_odd {b : RegNum} {imm : Half} {pa : Word} (ha : alignedTo 8 (s.effAddr b imm) = true)
    (hp : s.translate .load (s.effAddr b imm) = .ok pa) : exec (.ldc1 b r imm) s = .refused .oddDouble :=
  (whenCop1_usable hu _).trans ((loadAt_ok ha hp _).trans (whenD_odd (by rw [State.afterRead_validD, hr]) _))

/-- SDC1 tests its operand after the alignment test and before translation (R414, log 10). -/
theorem exec_sdc1_odd {b : RegNum} {imm : Half} (ha : alignedTo 8 (s.effAddr b imm) = true) :
    exec (.sdc1 b r imm) s = .refused .oddDouble :=
  (whenCop1_usable hu _).trans ((whenAligned_aligned ha _ _).trans (whenD_odd hr _))

end shapes

/-! ### The instructions that name a double view, by the shape of their meaning (R425 to R439, R455 to R480) -/

section instructions
variable (s : State) (ft fs fd : RegNum)
theorem exec_addD : exec (.addD ft fs fd) s = binaryD s fs ft fd add64 := rfl
theorem exec_subD : exec (.subD ft fs fd) s = binaryD s fs ft fd sub64 := rfl
theorem exec_mulD : exec (.mulD ft fs fd) s = binaryD s fs ft fd mul64 := rfl
theorem exec_divD : exec (.divD ft fs fd) s = binaryD s fs ft fd div64 := rfl
theorem exec_sqrtD : exec (.sqrtD fs fd) s = unaryD s fs fd (sqrt64 s.roundMode) := rfl
theorem exec_absD : exec (.absD fs fd) s = unaryD s fs fd (fun v => v &&& 0x7FFFFFFFFFFFFFFF#64) := rfl
theorem exec_movD : exec (.movD fs fd) s = unaryD s fs fd (fun v => v) := rfl
theorem exec_negD : exec (.negD fs fd) s = unaryD s fs fd (fun v => v ^^^ 0x8000000000000000#64) := rfl
theorem exec_roundLS : exec (.roundLS fs fd) s = convertStoD s fs fd (fun v => toInt64 .nearest (.single v)) := rfl
theorem exec_roundLD : exec (.roundLD fs fd) s = convertDtoD s fs fd (fun v => toInt64 .nearest (.double v)) := rfl
theorem exec_roundWD : exec (.roundWD fs fd) s = convertDtoS s fs fd (fun v => toInt32 .nearest (.double v)) := rfl
theorem exec_truncLS : exec (.truncLS fs fd) s = convertStoD s fs fd (fun v => toInt64 .zero (.single v)) := rfl
theorem exec_truncLD : exec (.truncLD fs fd) s = convertDtoD s fs fd (fun v => toInt64 .zero (.double v)) := rfl
theorem exec_truncWD : exec (.truncWD fs fd) s = convertDtoS s fs fd (fun v => toInt32 .zero (.double v)) := rfl
theorem exec_ceilLS : exec (.ceilLS fs fd) s = convertStoD s fs fd (fun v => toInt64 .up (.single v)) := rfl
theorem exec_ceilLD : exec (.ceilLD fs fd) s = convertDtoD s fs fd (fun v => toInt64 .up (.double v)) := rfl
theorem exec_ceilWD : exec (.ceilWD fs fd) s = convertDtoS s fs fd (fun v => toInt32 .up (.double v)) := rfl
theorem exec_floorLS : exec (.floorLS fs fd) s = convertStoD s fs fd (fun v => toInt64 .down (.single v)) := rfl
theorem exec_floorLD : exec (.floorLD fs fd) s = convertDtoD s fs fd (fun v => toInt64 .down (.double v)) := rfl
theorem exec_floorWD : exec (.floorWD fs fd) s = convertDtoS s fs fd (fun v => toInt32 .down (.double v)) := rfl
theorem exec_cvtSD : exec (.cvtSD fs fd) s = convertDtoS s fs fd (cvt32of64 s.roundMode) := rfl
theorem exec_cvtSL : exec (.cvtSL fs fd) s = convertDtoS s fs fd (fun v => fromInt32 s.roundMode v.toInt) := rfl
theorem exec_cvtDS : exec (.cvtDS fs fd) s = convertStoD s fs fd cvt64of32 := rfl
theorem exec_cvtDW : exec (.cvtDW fs fd) s = convertStoD s fs fd (fun v => fromInt64 s.roundMode v.toInt) := rfl
theorem exec_cvtDL : exec (.cvtDL fs fd) s = convertDtoD s fs fd (fun v => fromInt64 s.roundMode v.toInt) := rfl
theorem exec_cvtWD : exec (.cvtWD fs fd) s = convertDtoS s fs fd (fun v => toInt32 s.roundMode (.double v)) := rfl
theorem exec_cvtLS : exec (.cvtLS fs fd) s = convertStoD s fs fd (fun v => toInt64 s.roundMode (.single v)) := rfl
theorem exec_cvtLD : exec (.cvtLD fs fd) s = convertDtoD s fs fd (fun v => toInt64 s.roundMode (.double v)) := rfl
end instructions

/-- The sixteen double-precision compares are `compareD` with their code (R454). -/
theorem exec_compareDouble (cond : BitVec 4) (fs ft : RegNum) (s : State) :
    exec (compareDouble cond fs ft) s = compareD s cond fs ft := by
  cases cond with
  | ofFin n => fin_cases n <;> rfl

/-- Settles O54: the list becomes one conjunct per instruction, each instruction its shape, and each shape refuses by the place of
the odd operand. -/
theorem oddDoublesRefuse : Obligations.OddDoublesRefuse := by
  intro s r q b imm cond hu hfr hodd
  have hr : s.validD r = false := State.validD_eq_false hfr hodd
  have hAligned : (s.effAddr b imm).toNat % 8 = 0 → alignedTo 8 (s.effAddr b imm) = true := fun h => by
    simp [alignedTo, h]
  refine ⟨fun pa ha hp => exec_ldc1_odd hu hr (hAligned ha) hp, fun ha => exec_sdc1_odd hu hr (hAligned ha), ?_⟩
  simp only [List.forall_mem_cons, List.not_mem_nil, false_imp_iff, implies_true, and_true,
    exec_addD, exec_subD, exec_mulD, exec_divD, exec_sqrtD, exec_absD, exec_movD, exec_negD, exec_roundLS, exec_roundLD,
    exec_roundWD, exec_truncLS, exec_truncLD, exec_truncWD, exec_ceilLS, exec_ceilLD, exec_ceilWD, exec_floorLS,
    exec_floorLD, exec_floorWD, exec_cvtSD, exec_cvtSL, exec_cvtDS, exec_cvtDW, exec_cvtDL, exec_cvtWD, exec_cvtLS,
    exec_cvtLD, exec_compareDouble]
  simp only [exec_dmfc1_odd hu hr, exec_dmtc1_odd hu hr, binaryD_odd_fs hu hr, binaryD_odd_ft hu hr, binaryD_odd_fd hu hr,
    unaryD_odd_fs hu hr, unaryD_odd_fd hu hr, convertDtoS_odd hu hr, convertStoD_odd hu hr, convertDtoD_odd_fs hu hr,
    convertDtoD_odd_fd hu hr, compareD_odd_fs hu hr, compareD_odd_ft hu hr, and_self]

end Sys2Proof.Machine
end

section
/-! PROOF. What decodes is well-formed (R147), and the step as `exec` of the decoded instruction (R26). -/

namespace Sys2Proof

/-- A field of five bits fits a 5-bit field (R132, R133). -/
theorem fits5_toNat (f : BitVec 5) : fits5 f.toNat = true := by
  simpa [fits5] using f.isLt

section tables
variable {w : Word} {i : Instr}

/-- Of SPECIAL only the nine shifts by an amount have an operand that well-formedness bounds. -/
theorem decodeSpecial_wellFormed (h : decodeSpecial w = .ok i) : i.wellFormed = true := by
  unfold decodeSpecial at h
  split at h
  case h_1 | h_2 | h_3 | h_47 | h_48 | h_49 | h_50 | h_51 | h_52 => cases h; exact fits5_toNat _
  all_goals cases h <;> rfl

theorem decodeRegimm_wellFormed (h : decodeRegimm w = .ok i) : i.wellFormed = true := by
  unfold decodeRegimm at h
  split at h <;> cases h <;> rfl

theorem decodeCop0Function_wellFormed (h : decodeCop0Function w = .ok i) : i.wellFormed = true := by
  unfold decodeCop0Function at h
  split at h <;> cases h <;> rfl

theorem decodeCop0_wellFormed (h : decodeCop0 w = .ok i) : i.wellFormed = true := by
  unfold decodeCop0 at h
  split at h
  case h_3 => exact decodeCop0Function_wellFormed h
  all_goals cases h <;> rfl

theorem decodeCop1Branch_wellFormed (h : decodeCop1Branch w = .ok i) : i.wellFormed = true := by
  unfold decodeCop1Branch at h
  split at h <;> cases h <;> rfl

theorem decodeCop1Single_wellFormed (h : decodeCop1Single w = .ok i) : i.wellFormed = true := by
  unfold decodeCop1Single at h
  split at h <;> cases h <;> rfl

theorem decodeCop1Double_wellFormed (h : decodeCop1Double w = .ok i) : i.wellFormed = true := by
  unfold decodeCop1Double at h
  split at h <;> cases h <;> rfl

theorem decodeCop1Word_wellFormed (h : decodeCop1Word w = .ok i) : i.wellFormed = true := by
  unfold decodeCop1Word at h
  split at h <;> cases h <;> rfl

theorem decodeCop1Long_wellFormed (h : decodeCop1Long w = .ok i) : i.wellFormed = true := by
  unfold decodeCop1Long at h
  split at h <;> cases h <;> rfl

theorem decodeCop1_wellFormed (h : decodeCop1 w = .ok i) : i.wellFormed = true := by
  unfold decodeCop1 at h
  split at h
  case h_7 => exact decodeCop1Branch_wellFormed h
  case h_8 => exact decodeCop1Single_wellFormed h
  case h_9 => exact decodeCop1Double_wellFormed h
  case h_10 => exact decodeCop1Word_wellFormed h
  case h_11 => exact decodeCop1Long_wellFormed h
  all_goals cases h <;> rfl

/-- What decodes is well-formed (R147): every operand is a field of the word, the operation of CACHE (arm 42) among them. -/
theorem decodeWord_wellFormed (h : decodeWord w = .ok i) : i.wellFormed = true := by
  unfold decodeWord at h
  split at h
  case h_1 => exact decodeSpecial_wellFormed h
  case h_2 => exact decodeRegimm_wellFormed h
  case h_17 => exact decodeCop0_wellFormed h
  case h_18 => exact decodeCop1_wellFormed h
  case h_42 => cases h; exact fits5_toNat _
  all_goals cases h <;> rfl

end tables

end Sys2Proof

namespace Sys2Proof.Machine

/-- With no interrupt to take, a step whose fetch decodes is `exec` of the instruction, then the advance of time (R26). -/
theorem step_of_decoded {s u : State} {w : Word} {i : Instr} (hs : s.stop = false)
    (hi : s.deliverEvents.interruptPending = false) (hf : s.deliverEvents.fetch s.deliverEvents.pc = .ok (w, u))
    (hd : decodeWord w = .ok i) : step s = tick (exec i u) := by
  simp only [step, hs, boundaryAndRun, hi, runInstruction, hf, runWord, hd, Bool.false_eq_true, if_false]

/-- Where every byte is RAM a fetch changes nothing (R85). -/
theorem State.fetch_ram {s u : State} {va w : Word} (hn : s.notRam = []) (hf : s.fetch va = .ok (w, u)) : u = s := by
  obtain ⟨-, pa, -, hr⟩ := State.fetch_inv hf
  obtain ⟨-, rfl⟩ := Prod.mk.inj hr
  exact s.afterRead_ram pa 4 (s.allRam_of_notRam_nil hn _ _)

/-- Settles O5, from `step_of_decoded` and one outcome of `tick` per clause. -/
theorem stepRunsDecodedInstruction : Obligations.StepRunsDecodedInstruction := by
  intro s u w i hs hi hf hd
  have hStep : step s = tick (exec i u) := step_of_decoded hs hi hf hd
  refine ⟨decodeWord_wellFormed hd, fun hn => State.fetch_ram hn hf, fun t ht => ?_, fun f he => ?_, fun r he => ?_⟩
  · rw [hStep, ht]; rfl
  · rw [hStep, he]; rfl
  · rw [hStep, he]; rfl

end Sys2Proof.Machine
end

section
/-! PROOF. The geometry of a TLB half (R90, R98): its size is a power of two that divides its start and its frame, and an address in it
keeps its offset. -/

namespace Sys2Proof.Machine

/-! ### Masks and sizes -/

/-- A legal mask is all ones below some bit (R35). -/
theorem two_pow_maskOnes {m : BitVec 12} (h : legalMask m = true) : 2 ^ maskOnes m = m.toNat + 1 := by
  simp only [legalMask, List.contains_iff_mem, List.mem_cons, List.not_mem_nil, or_false] at h
  rcases h with rfl | rfl | rfl | rfl | rfl | rfl | rfl <;> decide

theorem maskOnes_le (m : BitVec 12) : maskOnes m ≤ 12 :=
  (List.length_filter_le _ _).trans (List.length_range.le)

/-- What has no bit under a legal mask is a multiple of the power of two above it. -/
theorem two_pow_maskOnes_dvd {w : Nat} {x : BitVec w} {m : BitVec 12} (hw : 12 ≤ w) (hm : legalMask m = true)
    (h : x &&& m.setWidth w = 0) : 2 ^ maskOnes m ∣ x.toNat := by
  have hmask : (m.setWidth w).toNat = 2 ^ maskOnes m - 1 := by
    rw [BitVec.toNat_setWidth_of_le hw, two_pow_maskOnes hm, Nat.add_sub_cancel]
  have hzero : x.toNat &&& (m.setWidth w).toNat = 0 := by rw [← BitVec.toNat_and, h]; rfl
  rw [hmask, Nat.and_two_pow_sub_one_eq_mod] at hzero
  exact Nat.dvd_of_mod_eq_zero hzero

namespace TlbEntry

/-- The range of one half, whether or not it is mapped (R90). -/
def range (e : TlbEntry) (odd : Bool) : PageRange :=
  { start := e.halfStart odd, size := e.pageSize, frame := (e.half odd).pfn.toNat * 4096, dirty := (e.half odd).dirty }

theorem pageSize_eq_two_pow (e : TlbEntry) : e.pageSize = 2 ^ (12 + maskOnes e.mask) := by
  rw [pageSize, Nat.pow_add]

theorem pageSize_pos (e : TlbEntry) : 0 < e.pageSize := by
  rw [pageSize_eq_two_pow]; exact Nat.two_pow_pos _

theorem page_dvd_pageSize (e : TlbEntry) : 4096 ∣ e.pageSize := Nat.dvd_mul_right _ _

theorem pageSize_dvd (e : TlbEntry) {n : Nat} (hn : 24 ≤ n) : e.pageSize ∣ 2 ^ n := by
  rw [pageSize_eq_two_pow]
  exact Nat.pow_dvd_pow 2 (by have := maskOnes_le e.mask; omega)

theorem halfStart_even (e : TlbEntry) : e.halfStart false = (e.vpn2 &&& e.tagMask).toNat * 8192 := by simp [halfStart]

theorem halfStart_odd (e : TlbEntry) : e.halfStart true = e.halfStart false + e.pageSize := by simp [halfStart]

theorem page_dvd_halfStart (e : TlbEntry) (odd : Bool) : 4096 ∣ e.halfStart odd := by
  have hEven : 4096 ∣ e.halfStart false := by rw [halfStart_even]; exact Dvd.dvd.mul_left (by decide) _
  cases odd
  · exact hEven
  · rw [halfStart_odd]; exact Nat.dvd_add hEven e.page_dvd_pageSize

/-- The even half starts at a multiple of the size of both halves together. -/
theorem two_pageSize_dvd_halfStart {e : TlbEntry} (hm : legalMask e.mask = true) : 2 * e.pageSize ∣ e.halfStart false := by
  have hClear : e.vpn2 &&& e.tagMask &&& e.mask.setWidth 19 = 0 := by
    rw [tagMask, BitVec.and_assoc, BitVec.and_comm (~~~_), BitVec.and_not_self]; exact BitVec.and_zero
  obtain ⟨c, hc⟩ := two_pow_maskOnes_dvd (by decide) hm hClear
  exact ⟨c, by rw [halfStart_even, hc, pageSize]; ring⟩

theorem pageSize_dvd_halfStart {e : TlbEntry} (hm : legalMask e.mask = true) (odd : Bool) : e.pageSize ∣ e.halfStart odd := by
  have hEven : e.pageSize ∣ e.halfStart false := (Nat.dvd_mul_left _ _).trans (two_pageSize_dvd_halfStart hm)
  cases odd
  · exact hEven
  · rw [halfStart_odd]; exact Nat.dvd_add hEven (Nat.dvd_refl _)

/-- A half ends inside the address space. -/
theorem halfStart_add_le {e : TlbEntry} (hm : legalMask e.mask = true) (odd : Bool) :
    e.halfStart odd + e.pageSize ≤ 2 ^ 32 := by
  have hLow : e.halfStart false < 2 ^ 32 := by
    rw [halfStart_even]; have := (e.vpn2 &&& e.tagMask).isLt; omega
  have hBoth : e.halfStart false + 2 * e.pageSize ≤ 2 ^ 32 :=
    Nat.le_of_lt_add_of_dvd (Nat.add_lt_add_right hLow _) (Nat.dvd_add (two_pageSize_dvd_halfStart hm) (Nat.dvd_refl _))
      (Nat.mul_dvd_mul_left 2 (e.pageSize_dvd (n := 31) (by decide)))
  cases odd
  · omega
  · rw [halfStart_odd]; omega

/-- Conditions (a) and (b) of R98, half by half. -/
theorem wellFormed_iff {e : TlbEntry} :
    e.wellFormed = true ↔ ∀ odd, (e.half odd).valid = true → legalMask e.mask = true ∧ e.frameAligned odd = true := by
  cases he : e.even.valid <;> cases ho : e.odd.valid <;> simp [wellFormed, frameAligned, half, he, ho, and_assoc]
  exact fun h _ _ => h

theorem pageSize_dvd_frame {e : TlbEntry} {odd : Bool} (hm : legalMask e.mask = true) (ha : e.frameAligned odd = true)
    (hv : (e.half odd).valid = true) : e.pageSize ∣ (e.half odd).pfn.toNat * 4096 := by
  have hClear : (e.half odd).pfn &&& e.mask.setWidth 24 = 0 := by simpa [frameAligned, hv] using ha
  rw [Nat.mul_comm]
  exact Nat.mul_dvd_mul_left 4096 (two_pow_maskOnes_dvd (by decide) hm hClear)

/-- The frame of an installable half ends inside the 512 MiB (R93). -/
theorem frame_add_le {e : TlbEntry} {odd : Bool} (hf : e.pageSize ∣ (e.half odd).pfn.toNat * 4096)
    (hi : e.installable odd = true) : (e.half odd).pfn.toNat * 4096 + e.pageSize ≤ 0x20000000 := by
  have hLow : (e.half odd).pfn.toNat < 0x20000 := by
    simp only [installable, Bool.and_eq_true, decide_eq_true_eq] at hi
    exact hi.1
  have hDvd : e.pageSize ∣ 0x20000000 := e.pageSize_dvd (n := 29) (by decide)
  exact Nat.le_of_lt_add_of_dvd (by omega) (Nat.dvd_add hf (Nat.dvd_refl _)) hDvd

end TlbEntry

/-! ### Addresses in a half -/

/-- The page of an address (R91). -/
theorem toNat_page (va : Word) : (va.extractLsb' 12 20).toNat = va.toNat / 4096 := by
  rw [BitVec.extractLsb'_toNat, Nat.shiftRight_eq_div_pow]
  exact Nat.mod_eq_of_lt (by have := va.isLt; omega)

theorem PageRange.holds_iff {r : PageRange} {p : BitVec 20} :
    r.holds p = true ↔ r.start ≤ p.toNat * 4096 ∧ p.toNat * 4096 < r.start + r.size := by
  simp [holds]

/-- A half holds the page of an address exactly when the address lies in it: halves are made of whole pages. -/
theorem holds_range_iff (e : TlbEntry) (odd : Bool) (va : Word) :
    (e.range odd).holds (va.extractLsb' 12 20) = true ↔ InHalf e odd va := by
  obtain ⟨a, ha⟩ := e.page_dvd_halfStart odd
  obtain ⟨b, hb⟩ := e.page_dvd_pageSize
  simp only [PageRange.holds_iff, TlbEntry.range, InHalf, toNat_page, ha, hb]
  omega

/-- The offset in the half is the address under the size. -/
theorem InHalf.mod_pageSize {e : TlbEntry} {odd : Bool} {va : Word} (h : InHalf e odd va) (hm : legalMask e.mask = true) :
    va.toNat % e.pageSize = va.toNat - e.halfStart odd := by
  obtain ⟨hLow, hHigh⟩ := h
  obtain ⟨c, hc⟩ := TlbEntry.pageSize_dvd_halfStart hm odd
  have hSum : va.toNat = e.pageSize * c + (va.toNat - e.halfStart odd) := by omega
  rw [hSum, Nat.mul_add_mod, Nat.mod_eq_of_lt (by omega), ← hSum]

/-- The base of a page with the offset in it: the frame with the offset in the half (R89, R91). -/
theorem toNat_base_or_offset {e : TlbEntry} {odd : Bool} {va : Word} (hw : e.wellFormed = true) (hM : Mapped e odd)
    (hin : InHalf e odd va) :
    ((e.range odd).base (va.extractLsb' 12 20) ||| (va &&& 0xFFF#32)).toNat =
      (e.half odd).pfn.toNat * 4096 + va.toNat % e.pageSize := by
  obtain ⟨hm, ha⟩ := TlbEntry.wellFormed_iff.1 hw odd hM.1
  have hFrame := TlbEntry.pageSize_dvd_frame hm ha hM.1
  have hTop := TlbEntry.frame_add_le hFrame hM.2
  obtain ⟨c, hc⟩ := e.page_dvd_halfStart odd
  have hOffset : (va &&& 0xFFF#32).toNat = va.toNat % 2 ^ 12 := by
    rw [BitVec.toNat_and]; exact Nat.and_two_pow_sub_one_eq_mod _ 12
  obtain ⟨hLow, hHigh⟩ := hin
  have hBase : ((e.range odd).base (va.extractLsb' 12 20)).toNat =
      2 ^ 12 * ((e.half odd).pfn.toNat + (va.toNat / 4096 - c)) := by
    simp only [PageRange.base, TlbEntry.range, toNat_page, BitVec.toNat_ofNat]
    rw [Nat.mod_eq_of_lt (by omega)]
    omega
  rw [BitVec.toNat_or, hBase, hOffset, ← Nat.two_pow_add_eq_or_of_lt (Nat.mod_lt _ (by decide)),
    InHalf.mod_pageSize ⟨hLow, hHigh⟩ hm]
  omega

end Sys2Proof.Machine
end

section
/-! PROOF. The consistency check slot by slot (R98), the look-up tables over the slots of the TLB (R91, R92), and translation through
them. -/

namespace Sys2Proof.Machine

/-! ### The ranges of the tables -/

theorem TlbEntry.mem_ranges {e : TlbEntry} {r : PageRange} : r ∈ e.ranges ↔ ∃ odd, Mapped e odd ∧ r = e.range odd := by
  have hHalf : ∀ odd, r ∈ e.halfRange odd ↔ Mapped e odd ∧ r = e.range odd := by
    intro odd
    unfold halfRange Mapped
    split
    · rename_i h
      simp only [Bool.and_eq_true] at h
      simp [h, range]
    · rename_i h
      simp only [Bool.and_eq_true] at h
      simp [h]
  rw [ranges, List.mem_append, hHalf, hHalf, Bool.exists_bool]

/-- The entries of the TLB are those of its slots. -/
theorem State.mem_tlb {s : State} {e : TlbEntry} : e ∈ s.tlb.toList ↔ ∃ k : BitVec 5, s.readTlb k = e := by
  rw [Vector.mem_toList_iff, Vector.mem_iff_getElem]
  constructor
  · rintro ⟨i, hi, rfl⟩
    exact ⟨BitVec.ofNatLT i hi, rfl⟩
  · rintro ⟨k, rfl⟩
    exact ⟨k.toNat, k.isLt, rfl⟩

theorem State.mem_tlbRanges {s : State} {r : PageRange} :
    r ∈ tlbRanges s.tlb ↔ ∃ (k : BitVec 5) (odd : Bool), Mapped (s.readTlb k) odd ∧ r = (s.readTlb k).range odd := by
  simp only [tlbRanges, List.mem_flatMap, State.mem_tlb, TlbEntry.mem_ranges, exists_exists_eq_and]

/-! ### The consistency check -/

theorem PageRange.overlaps_iff {a b : PageRange} :
    a.overlaps b = true ↔ a.start < b.start + b.size ∧ b.start < a.start + a.size := by
  simp [overlaps]

theorem PageRange.overlaps_comm (a b : PageRange) : a.overlaps b = b.overlaps a := Bool.and_comm _ _

theorem slotsDisjoint_iff {a b : List PageRange} :
    slotsDisjoint a b = true ↔ ∀ r ∈ a, ∀ q ∈ b, r.overlaps q = false := by
  simp [slotsDisjoint]

theorem slotsDisjoint_comm {a b : List PageRange} (h : slotsDisjoint a b = true) : slotsDisjoint b a = true :=
  slotsDisjoint_iff.2 fun r hr q hq => (PageRange.overlaps_comm r q).trans (slotsDisjoint_iff.1 h q hq r hr)

theorem allDisjoint_iff {l : List (List PageRange)} :
    allDisjoint l = true ↔ l.Pairwise fun a b => slotsDisjoint a b = true := by
  induction l with
  | nil => simp [allDisjoint]
  | cons a rest ih => simp [allDisjoint, ih]

/-- The check slot by slot: each is well-formed and its ranges overlap no other slot's. -/
theorem State.tlbConsistent_iff {s : State} :
    tlbConsistent s.tlb = true ↔ (∀ k, (s.readTlb k).wellFormed = true) ∧
      ∀ k j : BitVec 5, j ≠ k → slotsDisjoint (s.readTlb k).ranges (s.readTlb j).ranges = true := by
  have hWell : s.tlb.toList.all TlbEntry.wellFormed = true ↔ ∀ k, (s.readTlb k).wellFormed = true := by
    rw [List.all_eq_true]
    exact ⟨fun h k => h _ (State.mem_tlb.2 ⟨k, rfl⟩), fun h e he => by
      obtain ⟨k, rfl⟩ := State.mem_tlb.1 he
      exact h k⟩
  have hPairs : allDisjoint (s.tlb.toList.map TlbEntry.ranges) = true ↔
      ∀ k j : BitVec 5, j ≠ k → slotsDisjoint (s.readTlb k).ranges (s.readTlb j).ranges = true := by
    rw [allDisjoint_iff, List.pairwise_map, List.pairwise_iff_getElem]
    constructor
    · intro h k j hne
      have hSlots : ∀ a b : BitVec 5, a.toNat < b.toNat → slotsDisjoint (s.readTlb a).ranges (s.readTlb b).ranges = true :=
        fun a b hab => h a.toNat b.toNat (by simpa using a.isLt) (by simpa using b.isLt) hab
      rcases Nat.lt_or_gt_of_ne fun heq => hne (BitVec.eq_of_toNat_eq heq) with hlt | hgt
      · exact slotsDisjoint_comm (hSlots j k hlt)
      · exact hSlots k j hgt
    · intro h i j hi hj hij
      rw [Vector.length_toList] at hi hj
      exact h (BitVec.ofNatLT i hi) (BitVec.ofNatLT j hj) fun heq => by
        have := congrArg BitVec.toNat heq
        simp only [BitVec.toNat_ofNatLT] at this
        omega
  rw [tlbConsistent, Bool.and_eq_true, hWell, hPairs]

theorem State.wellFormed_of_consistent {s : State} (h : tlbConsistent s.tlb = true) (k : BitVec 5) :
    (s.readTlb k).wellFormed = true :=
  (State.tlbConsistent_iff.1 h).1 k

/-- Two ranges that hold one page overlap. -/
theorem PageRange.overlaps_of_holds {r q : PageRange} {p : BitVec 20} (hr : r.holds p = true) (hq : q.holds p = true) :
    r.overlaps q = true := by
  rw [holds_iff] at hr hq
  rw [overlaps_iff]
  omega

/-- The halves of one entry share no page. -/
theorem TlbEntry.half_unique {e : TlbEntry} {g h : Bool} {p : BitVec 20} (hg : (e.range g).holds p = true)
    (hh : (e.range h).holds p = true) : g = h := by
  have hOdd := e.halfStart_odd
  simp only [range, PageRange.holds_iff] at hg hh
  cases g <;> cases h
  case false.true => omega
  case true.false => omega
  all_goals rfl

/-- With a consistent TLB one range at most holds a page (R98 c). -/
theorem State.range_unique {s : State} (hc : tlbConsistent s.tlb = true) {r q : PageRange} {p : BitVec 20}
    (hr : r ∈ tlbRanges s.tlb) (hq : q ∈ tlbRanges s.tlb) (hrp : r.holds p = true) (hqp : q.holds p = true) : q = r := by
  obtain ⟨k, h, hkM, rfl⟩ := State.mem_tlbRanges.1 hr
  obtain ⟨j, g, hjM, rfl⟩ := State.mem_tlbRanges.1 hq
  by_cases hjk : j = k
  · subst hjk
    rw [TlbEntry.half_unique hqp hrp]
  · have hFree := slotsDisjoint_iff.1 ((State.tlbConsistent_iff.1 hc).2 k j hjk) _ (TlbEntry.mem_ranges.2 ⟨h, hkM, rfl⟩) _
      (TlbEntry.mem_ranges.2 ⟨g, hjM, rfl⟩)
    rw [PageRange.overlaps_of_holds hrp hqp] at hFree
    cases hFree

/-! ### The look-up tables -/

/-- The ranges the table of a direction looks at: a store needs a dirty one (R92). -/
theorem State.lut_eq (s : State) (dir : Direction) (p : BitVec 20) :
    s.lut dir p =
      ((tlbRanges s.tlb).find? fun r => (r.dirty || decide (dir ≠ .store)) && r.holds p).map fun r => r.base p := by
  cases dir <;> simp [State.lut, lutRead, lutWrite]

/-- The range a table answers from is one of the TLB's that holds the page, and dirty for a store. -/
theorem State.lut_some {s : State} {dir : Direction} {p : BitVec 20} {base : Word} (h : s.lut dir p = some base) :
    ∃ r ∈ tlbRanges s.tlb, r.holds p = true ∧ (dir = .store → r.dirty = true) ∧ base = r.base p := by
  rw [State.lut_eq] at h
  obtain ⟨r, hr, rfl⟩ := Option.map_eq_some_iff.1 h
  have hFound := List.find?_some hr
  simp only [Bool.and_eq_true, Bool.or_eq_true, decide_eq_true_eq] at hFound
  exact ⟨r, List.mem_of_find?_eq_some hr, hFound.2, fun hd => hFound.1.resolve_right (absurd hd), rfl⟩

/-- A table has no answer where no range that holds the page may be used in the direction. -/
theorem State.lut_none {s : State} {dir : Direction} {p : BitVec 20}
    (h : ∀ r ∈ tlbRanges s.tlb, r.holds p = true → dir = .store ∧ r.dirty = false) : s.lut dir p = none := by
  cases hl : s.lut dir p with
  | none => rfl
  | some base =>
    obtain ⟨r, hr, hHolds, hDirty, -⟩ := State.lut_some hl
    obtain ⟨hd, hClean⟩ := h r hr hHolds
    rw [hDirty hd] at hClean
    cases hClean

/-- With a consistent TLB a table answers from the range that holds the page (R91, R92). -/
theorem State.lut_of_holds {s : State} (hc : tlbConsistent s.tlb = true) {r : PageRange} {p : BitVec 20}
    (hr : r ∈ tlbRanges s.tlb) (hp : r.holds p = true) {dir : Direction} (hd : dir = .store → r.dirty = true) :
    s.lut dir p = some (r.base p) := by
  cases hl : s.lut dir p with
  | some base =>
    obtain ⟨q, hq, hHolds, -, rfl⟩ := State.lut_some hl
    rw [State.range_unique hc hr hq hp hHolds]
  | none =>
    rw [State.lut_eq, Option.map_eq_none_iff, List.find?_eq_none] at hl
    refine absurd ?_ (hl r hr)
    simp only [Bool.and_eq_true, Bool.or_eq_true, decide_eq_true_eq]
    exact ⟨(em (dir = .store)).imp hd id, hp⟩

/-! ### Translation -/

/-- A mapped address translates to the frame with the offset in the half, for a store when the half is dirty. -/
theorem State.translate_inHalf {s : State} (hc : tlbConsistent s.tlb = true) {va : Word} (hw : inWindow va = false)
    {k : BitVec 5} {odd : Bool} (hM : Mapped (s.readTlb k) odd) (hin : InHalf (s.readTlb k) odd va) {dir : Direction}
    (hd : dir = .store → ((s.readTlb k).half odd).dirty = true) :
    s.translate dir va =
      .ok (BitVec.ofNat 32 (((s.readTlb k).half odd).pfn.toNat * 4096 + va.toNat % (s.readTlb k).pageSize)) := by
  have hRange : (s.readTlb k).range odd ∈ tlbRanges s.tlb := State.mem_tlbRanges.2 ⟨k, odd, hM, rfl⟩
  rw [State.translate_mapped hw, if_pos hc, State.lut_of_holds hc hRange ((holds_range_iff _ _ _).2 hin) hd,
    ← toNat_base_or_offset (State.wellFormed_of_consistent hc k) hM hin, BitVec.ofNat_toNat, BitVec.setWidth_eq]

/-- An address outside the window translates only in a mapped half, dirty for a store. -/
theorem State.translate_mapped_ok {s : State} {dir : Direction} {va pa : Word} (hw : inWindow va = false)
    (h : s.translate dir va = .ok pa) : tlbConsistent s.tlb = true ∧
      ∃ (k : BitVec 5) (odd : Bool), Mapped (s.readTlb k) odd ∧ InHalf (s.readTlb k) odd va ∧
        (dir = .store → ((s.readTlb k).half odd).dirty = true) := by
  rw [State.translate_mapped hw] at h
  split at h
  · rename_i hc
    split at h
    · cases h
    · rename_i base hl
      obtain ⟨r, hr, hHolds, hDirty, -⟩ := State.lut_some hl
      obtain ⟨k, odd, hM, rfl⟩ := State.mem_tlbRanges.1 hr
      exact ⟨hc, k, odd, hM, (holds_range_iff _ _ _).1 hHolds, hDirty⟩
  · cases h

/-- An address misses in a direction when no mapped half that it lies in may be used so (R89, R92). -/
theorem State.translate_miss {s : State} (hc : tlbConsistent s.tlb = true) {va : Word} (hw : inWindow va = false)
    {dir : Direction} (h : ∀ (k : BitVec 5) (odd : Bool), Mapped (s.readTlb k) odd → InHalf (s.readTlb k) odd va →
      dir = .store ∧ ((s.readTlb k).half odd).dirty = false) :
    s.translate dir va = .raise (.tlbMiss dir va) := by
  have hEmpty : ∀ r ∈ tlbRanges s.tlb, r.holds (va.extractLsb' 12 20) = true → dir = .store ∧ r.dirty = false := by
    intro r hr hHolds
    obtain ⟨k, odd, hM, rfl⟩ := State.mem_tlbRanges.1 hr
    exact h k odd hM ((holds_range_iff _ _ _).1 hHolds)
  rw [State.translate_mapped hw, if_pos hc, State.lut_none hEmpty]

/-- In the window the physical address is the low 29 bits (R88). -/
theorem toNat_window (va : Word) : (va &&& 0x1FFFFFFF#32).toNat = va.toNat % 2 ^ 29 := by
  rw [BitVec.toNat_and]; exact Nat.and_two_pow_sub_one_eq_mod _ 29

/-- Translation answers an address below 512 MiB with the same offset in its 4 KiB page (R88, R93). -/
theorem State.translate_ok_bounds {s : State} {dir : Direction} {va pa : Word} (h : s.translate dir va = .ok pa) :
    pa.toNat < 0x20000000 ∧ pa.toNat % 4096 = va.toNat % 4096 := by
  cases hw : inWindow va with
  | true =>
    rw [State.translate_window hw] at h
    cases h
    rw [toNat_window]
    omega
  | false =>
    obtain ⟨hc, k, odd, hM, hin, hd⟩ := State.translate_mapped_ok hw h
    rw [State.translate_inHalf hc hw hM hin hd] at h
    cases h
    obtain ⟨hm, ha⟩ := TlbEntry.wellFormed_iff.1 (State.wellFormed_of_consistent hc k) odd hM.1
    have hTop := TlbEntry.frame_add_le (TlbEntry.pageSize_dvd_frame hm ha hM.1) hM.2
    have hOffset := Nat.mod_lt va.toNat (s.readTlb k).pageSize_pos
    have hPage := Nat.mod_mod_of_dvd va.toNat (s.readTlb k).page_dvd_pageSize
    rw [BitVec.toNat_ofNat, Nat.mod_eq_of_lt (by omega)]
    omega

end Sys2Proof.Machine
end

section
/-! PROOF. What a step does to physical memory: one relation, closed under composition, that every operation of a step keeps. -/

namespace Sys2Proof.Machine

/-- From `s` to `t` memory keeps its canonical form and its range, and no byte that is not RAM changes. -/
structure State.KeepsMemory (s t : State) : Prop where
  canonical : s.memCanonical → t.memCanonical
  inRange : s.memInRange → t.memInRange
  notRam : t.notRam = s.notRam
  platform : ∀ a, s.isRam a = false → t.mem.readByte a = s.mem.readByte a

theorem State.KeepsMemory.trans {a b c : State} (h : a.KeepsMemory b) (k : b.KeepsMemory c) : a.KeepsMemory c where
  canonical := k.canonical ∘ h.canonical
  inRange := k.inRange ∘ h.inRange
  notRam := k.notRam.trans h.notRam
  platform := fun x hx => by
    have hb : b.isRam x = false := by rw [State.isRam, h.notRam]; exact hx
    rw [k.platform x hb, h.platform x hx]

/-- An update that leaves memory and the declaration of RAM alone. -/
theorem State.KeepsMemory.of_eq {s t : State} (hm : t.mem = s.mem) (hn : t.notRam = s.notRam) : s.KeepsMemory t where
  canonical := by unfold State.memCanonical; rw [hm]; exact id
  inRange := by unfold State.memInRange; rw [hm]; exact id
  notRam := hn
  platform := fun a _ => by rw [hm]

/-- A write inside the aligned doubleword of an address that translates stays below 512 MiB (R81, R93). -/
theorem State.keepsMemory_physWrite {s : State} {va pa : Word} {n : Nat} (hp : s.translate .store va = .ok pa)
    (hn : va.toNat % 8 + n ≤ 8) (v : Dword) : s.KeepsMemory (s.physWrite pa n v) where
  canonical := Memory.wf_writeWhere s.isRam s.mem pa.toNat v n
  inRange := fun h c hc => by
    obtain ⟨hBelow, hOffset⟩ := State.translate_ok_bounds hp
    rcases Memory.mem_writeWhere hc with ⟨-, hLast⟩ | hOld
    · omega
    · exact h c hOld
  notRam := rfl
  platform := fun a ha => Memory.readByte_writeWhere_same s.isRam s.mem pa.toNat v n a (.inr (.inr ha))

/-- Every instruction that answers a state: only the stores and the store conditionals write memory. -/
theorem exec_keepsMemory {i : Instr} {s t : State} (h : exec i s = .next t) : s.KeepsMemory t := by
  cases exec_effect h with
  | store va pa n v hp hn => exact (State.keepsMemory_physWrite hp hn v).trans (.of_eq rfl rfl)
  | storeCond va pa rt n hi hp hn =>
    exact (State.keepsMemory_physWrite hp hn (s.readX rt)).trans (.of_eq (by simp) (by simp))
  | _ => exact .of_eq (by simp) (by simp)

/-- Every step that answers a state: what surrounds the instruction leaves memory alone. -/
theorem step_keepsMemory {s t : State} (h : step s = .next t) : s.KeepsMemory t := by
  rcases step_next h with rfl | ⟨e, rfl⟩ | ⟨pa, i, u, hu, rfl⟩
  · exact .of_eq rfl rfl
  · exact .of_eq rfl rfl
  · have hFetch : s.KeepsMemory (s.deliverEvents.afterRead pa 4) := .of_eq rfl rfl
    exact hFetch.trans ((exec_keepsMemory hu).trans (.of_eq rfl rfl))

/-- Settles O55: the clauses of `State.KeepsMemory`, which every step keeps. -/
theorem stepKeepsMemoryWellFormed : Obligations.StepKeepsMemoryWellFormed :=
  ⟨fun _ _ hs h => (step_keepsMemory h).canonical hs, fun _ _ hs h => (step_keepsMemory h).inRange hs,
    fun _ _ h => (step_keepsMemory h).platform⟩

end Sys2Proof.Machine
end

section
/-! PROOF. The unmapped window (R88) and the translation property (R96). -/

namespace Sys2Proof.Machine

/-- The window as an interval (R88). -/
theorem inWindow_iff {va : Word} : inWindow va = true ↔ 0x80000000 ≤ va.toNat ∧ va.toNat < 0xC0000000 := by
  have hTop : (va.extractLsb' 30 2).toNat = va.toNat / 2 ^ 30 := by
    rw [BitVec.extractLsb'_toNat, Nat.shiftRight_eq_div_pow]
    exact Nat.mod_eq_of_lt (by have := va.isLt; omega)
  rw [inWindow, beq_iff_eq, ← BitVec.toNat_inj, hTop, show (2 : BitVec 2).toNat = 2 from rfl]
  omega

/-- In either half of the window the low 29 bits are the offset from the half's first address. -/
theorem State.translate_windowHalf {s : State} {va first : Word} (hf : first.toNat = 0x80000000 ∨ first.toNat = 0xA0000000)
    (hLow : first.toNat ≤ va.toNat) (hHigh : va.toNat < first.toNat + 0x20000000) (dir : Direction) :
    s.translate dir va = .ok (va - first) := by
  rw [State.translate_window (inWindow_iff.2 (by omega))]
  refine congrArg Access.ok (BitVec.eq_of_toNat_eq ?_)
  rw [toNat_window, BitVec.toNat_sub_of_le (BitVec.le_def.2 hLow)]
  omega

/-- Settles O20: the two halves by `translate_windowHalf`, the bound from translation's own. -/
theorem windowTranslation : Obligations.WindowTranslation := by
  intro s dir va
  refine ⟨fun ⟨hLow, hHigh⟩ => ?_, fun ⟨hLow, hHigh⟩ => ?_, fun pa hp _ => (State.translate_ok_bounds hp).1⟩
  · exact State.translate_windowHalf (first := 0x80000000#32) (.inl rfl) hLow hHigh dir
  · exact State.translate_windowHalf (first := 0xA0000000#32) (.inr rfl) hLow hHigh dir

/-- The frame and the offset share no bit, so the statement's OR is their sum. -/
theorem TlbEntry.frame_or_offset {e : TlbEntry} {odd : Bool} (hw : e.wellFormed = true) (hv : (e.half odd).valid = true)
    (va : Word) :
    (e.half odd).pfn.toNat * 4096 ||| va.toNat % e.pageSize = (e.half odd).pfn.toNat * 4096 + va.toNat % e.pageSize := by
  obtain ⟨hm, ha⟩ := wellFormed_iff.1 hw odd hv
  obtain ⟨c, hc⟩ := pageSize_dvd_frame hm ha hv
  have hOffset := Nat.mod_lt va.toNat e.pageSize_pos
  rw [hc]
  rw [pageSize_eq_two_pow] at hOffset ⊢
  exact (Nat.two_pow_add_eq_or_of_lt hOffset c).symm

/-- Settles O21: a mapped half by `translate_inHalf`, everything else misses; a store also in a half that is not dirty, since no other
half holds the address. -/
theorem mappedTranslation : Obligations.MappedTranslation := by
  intro s va hc hw
  refine ⟨fun k h hM hin => ?_, fun hNone dir => State.translate_miss hc hw fun k h hM hin => absurd hin (hNone k h hM)⟩
  dsimp only
  rw [TlbEntry.frame_or_offset (State.wellFormed_of_consistent hc k) hM.1]
  refine ⟨State.translate_inHalf hc hw hM hin (by simp), State.translate_inHalf hc hw hM hin (by simp),
    fun hd => State.translate_inHalf hc hw hM hin fun _ => hd, fun hd => ?_⟩
  refine State.translate_miss hc hw fun j g hjM hjin => ⟨rfl, ?_⟩
  have hSame : (s.readTlb j).range g = (s.readTlb k).range h :=
    State.range_unique hc (State.mem_tlbRanges.2 ⟨k, h, hM, rfl⟩) (State.mem_tlbRanges.2 ⟨j, g, hjM, rfl⟩)
      ((holds_range_iff _ _ _).2 hin) ((holds_range_iff _ _ _).2 hjin)
  exact (congrArg PageRange.dirty hSame).trans hd

end Sys2Proof.Machine
end

section
/-! PROOF. The consistency check as the condition of R98, and the TLB instructions (R363 to R366). -/

namespace Sys2Proof.Machine

/-! ### The condition page by page -/

theorem legalMask_iff {m : BitVec 12} :
    legalMask m = true ↔ m ∈ [0x000#12, 0x003#12, 0x00F#12, 0x03F#12, 0x0FF#12, 0x3FF#12, 0xFFF#12] :=
  List.contains_iff_mem

/-- The first address of a page lies in a half exactly when the half's range holds the page. -/
theorem inHalf_page_iff {e : TlbEntry} {odd : Bool} {p : BitVec 20} : InHalf e odd (p ++ 0#12) ↔ (e.range odd).holds p = true := by
  have hPage : (p ++ 0#12).extractLsb' 12 20 = p := BitVec.extractLsb'_append_eq_left
  rw [← holds_range_iff, hPage]

/-- Halves that overlap share a page: the first one of the half that starts later. -/
theorem TlbEntry.exists_page_of_overlaps {e f : TlbEntry} {h g : Bool} (he : legalMask e.mask = true)
    (hf : legalMask f.mask = true) (ho : (e.range h).overlaps (f.range g) = true) :
    ∃ p : BitVec 20, (e.range h).holds p = true ∧ (f.range g).holds p = true := by
  obtain ⟨a, ha⟩ := e.page_dvd_halfStart h
  obtain ⟨b, hb⟩ := f.page_dvd_halfStart g
  have hePos := e.pageSize_pos
  have hfPos := f.pageSize_pos
  have heTop := halfStart_add_le he h
  have hfTop := halfStart_add_le hf g
  simp only [PageRange.overlaps_iff, range] at ho
  refine ⟨BitVec.ofNat 20 (max a b), ?_⟩
  simp only [PageRange.holds_iff, range, BitVec.toNat_ofNat, Nat.mod_eq_of_lt (show max a b < 2 ^ 20 by omega)]
  omega

/-- Slots whose masks are legal wherever they are valid are disjoint exactly when no page lies in a mapped half of each (R98 c). -/
theorem slotsDisjoint_ranges_iff {e f : TlbEntry} (he : e.wellFormed = true) (hf : f.wellFormed = true) :
    slotsDisjoint e.ranges f.ranges = true ↔ ∀ (g h : Bool) (p : BitVec 20),
      ¬(Mapped e h ∧ InHalf e h (p ++ 0#12) ∧ Mapped f g ∧ InHalf f g (p ++ 0#12)) := by
  simp only [slotsDisjoint_iff, TlbEntry.mem_ranges, inHalf_page_iff]
  constructor
  · rintro hFree g h p ⟨hMe, hep, hMf, hfp⟩
    have hOverlap := PageRange.overlaps_of_holds hep hfp
    rw [hFree _ ⟨h, hMe, rfl⟩ _ ⟨g, hMf, rfl⟩] at hOverlap
    cases hOverlap
  · rintro hFree r ⟨h, hMe, rfl⟩ q ⟨g, hMf, rfl⟩
    refine Bool.eq_false_iff.2 fun hOverlap => ?_
    obtain ⟨p, hep, hfp⟩ := TlbEntry.exists_page_of_overlaps (TlbEntry.wellFormed_iff.1 he h hMe.1).1
      (TlbEntry.wellFormed_iff.1 hf g hMf.1).1 hOverlap
    exact hFree g h p ⟨hMe, hep, hMf, hfp⟩

/-- A slot is in use when one of its halves is valid. -/
theorem TlbEntry.valid_iff {e : TlbEntry} : (e.even.valid = true ∨ e.odd.valid = true) ↔ ∃ h, (e.half h).valid = true := by
  simp [half, Bool.exists_bool]

theorem TlbEntry.frameAligned_iff {e : TlbEntry} {h : Bool} (hv : (e.half h).valid = true) :
    e.frameAligned h = true ↔ (e.half h).pfn &&& e.mask.setWidth 24 = 0 := by
  simp [frameAligned, hv]

/-- Conditions (a) and (b) of R98 with the legal masks listed. -/
theorem TlbEntry.wellFormed_iff_listed {e : TlbEntry} :
    e.wellFormed = true ↔ (e.even.valid = true ∨ e.odd.valid = true →
      e.mask ∈ [0x000#12, 0x003#12, 0x00F#12, 0x03F#12, 0x0FF#12, 0x3FF#12, 0xFFF#12] ∧
      ∀ h : Bool, (e.half h).valid = true → (e.half h).pfn &&& e.mask.setWidth 24 = 0) := by
  rw [wellFormed_iff, ← legalMask_iff, valid_iff]
  constructor
  · rintro hWell ⟨h, hv⟩
    exact ⟨(hWell h hv).1, fun g hg => (frameAligned_iff hg).1 (hWell g hg).2⟩
  · intro hListed h hv
    obtain ⟨hMask, hFrames⟩ := hListed ⟨h, hv⟩
    exact ⟨hMask, (frameAligned_iff hv).2 (hFrames h hv)⟩

/-- The check as R98 states it: (a), (b), and (c) page by page. -/
theorem State.tlbConsistent_iff_pages {s : State} : tlbConsistent s.tlb = true ↔
    ∀ k : BitVec 5,
      let e := s.readTlb k
      e.even.valid = true ∨ e.odd.valid = true →
      e.mask ∈ [0x000#12, 0x003#12, 0x00F#12, 0x03F#12, 0x0FF#12, 0x3FF#12, 0xFFF#12] ∧
      (∀ h : Bool, (e.half h).valid = true → (e.half h).pfn &&& e.mask.setWidth 24 = 0) ∧
      ∀ j : BitVec 5, j ≠ k → ∀ (g h : Bool) (p : BitVec 20),
        ¬(Mapped e h ∧ InHalf e h (p ++ 0#12) ∧ Mapped (s.readTlb j) g ∧ InHalf (s.readTlb j) g (p ++ 0#12)) := by
  rw [State.tlbConsistent_iff]
  constructor
  · rintro ⟨hWell, hFree⟩ k e hv
    obtain ⟨hMask, hFrames⟩ := TlbEntry.wellFormed_iff_listed.1 (hWell k) hv
    exact ⟨hMask, hFrames, fun j hj => (slotsDisjoint_ranges_iff (hWell k) (hWell j)).1 (hFree k j hj)⟩
  · intro h
    have hWell : ∀ k, (s.readTlb k).wellFormed = true := fun k => TlbEntry.wellFormed_iff_listed.2 fun hv =>
      ⟨(h k hv).1, (h k hv).2.1⟩
    refine ⟨hWell, fun k j hj => (slotsDisjoint_ranges_iff (hWell k) (hWell j)).2 ?_⟩
    rintro g o p hBoth
    obtain ⟨-, -, hFree⟩ := h k (TlbEntry.valid_iff.2 ⟨o, hBoth.1.1⟩)
    exact hFree j hj g o p hBoth

/-! ### The TLB instructions, where COP0 is usable -/

section instructions
variable {s : State} (hu : s.cop0Usable = true)
include hu

theorem exec_tlbr : exec .tlbr s = finish { s with cp0 := s.cp0.loadEntry (s.readTlb (s.cp0.index.extractLsb' 0 5)) } :=
  whenCop0_usable hu _

theorem exec_tlbwi : exec .tlbwi s = finish (s.tlbWrite (s.cp0.index.extractLsb' 0 5)) := whenCop0_usable hu _

theorem exec_tlbwr (hw : s.cp0.wired.toNat ≤ 31) :
    exec .tlbwr s = finish (s.tlbWrite (BitVec.ofNat 5 (Config.randomSlot s.cp0.count s.cp0.wired))) :=
  (whenCop0_usable hu _).trans (if_pos hw)

theorem exec_tlbwr_refused (hw : 31 < s.cp0.wired.toNat) : exec .tlbwr s = .refused .wiredAbove31 :=
  (whenCop0_usable hu _).trans (if_neg (by omega))

/-- TLBP always completes (R366). -/
theorem exec_tlbp_next : ∃ t, exec .tlbp s = .next t := ⟨_, whenCop0_usable hu _⟩

end instructions

/-- Settles O22: the check page by page, the refusal of a mapped translation, and one completion per TLB instruction. -/
theorem tlbConsistencyIsTheRule : Obligations.TlbConsistencyIsTheRule := by
  refine ⟨fun s => State.tlbConsistent_iff_pages, fun s dir va hc hw => ?_, fun s hu => ⟨fun hw => ⟨_, exec_tlbwr hu hw⟩, ?_⟩⟩
  · rw [State.translate_mapped hw, if_neg (by rw [hc]; exact Bool.false_ne_true)]
  · simp only [List.forall_mem_cons, List.not_mem_nil, false_imp_iff, implies_true, and_true]
    exact ⟨⟨_, exec_tlbwi hu⟩, ⟨_, exec_tlbr hu⟩, exec_tlbp_next hu⟩

/-- TLBWR's slot is in Wired..31 (R365, R568). -/
theorem toNat_randomSlot {count wired : Word} (hw : wired.toNat ≤ 31) :
    wired.toNat ≤ (BitVec.ofNat 5 (Config.randomSlot count wired)).toNat := by
  have hRaw := Nat.mod_lt (Config.randomRaw count wired) (show 0 < 32 - wired.toNat by omega)
  rw [BitVec.toNat_ofNat, Config.randomSlot, Nat.mod_eq_of_lt (by omega)]
  omega

/-! ### The registers TLBR writes, field by field -/

/-- A field shifted to its place in a register. -/
theorem toNat_field {v k : Nat} (x : BitVec v) (h : v + k ≤ 32) : (x.setWidth 32 <<< k).toNat = x.toNat <<< k := by
  have hBound : x.toNat <<< k < 2 ^ 32 := by
    calc x.toNat <<< k < 2 ^ (v + k) := Nat.shiftLeft_lt x.isLt
      _ ≤ 2 ^ 32 := Nat.pow_le_pow_right (by decide) h
  rw [BitVec.toNat_shiftLeft, BitVec.toNat_setWidth_of_le (by omega), Nat.mod_eq_of_lt hBound]

/-- A Bool as a word with one bit, as the statement of TLBR's EntryLo writes it. -/
def bitWord (b : Bool) : Word := if b then 1 else 0

theorem bitWord_eq_setWidth (b : Bool) : bitWord b = (BitVec.ofBool b).setWidth 32 := by
  cases b <;> rfl

/-- The EntryLo word of a half as an OR of shifted fields (R33). -/
def entryLoFields (h : TlbHalf) (global : Bool) : Word :=
  (h.pfn.setWidth 32 <<< 6) ||| (h.cache.setWidth 32 <<< 3) ||| (bitWord h.dirty <<< 2) ||| (bitWord h.valid <<< 1) |||
    bitWord global

theorem TlbEntry.entryLo_eq (e : TlbEntry) (odd : Bool) : e.entryLo odd = entryLoFields (e.half odd) e.global := by
  refine BitVec.eq_of_toNat_eq ?_
  rw [entryLo, BitVec.toNat_append, BitVec.toNat_append, BitVec.toNat_append, BitVec.toNat_append, BitVec.toNat_append]
  simp [entryLoFields, bitWord_eq_setWidth, toNat_field, Nat.shiftLeft_or_distrib, ← Nat.shiftLeft_add,
    BitVec.toNat_setWidth_of_le, -BitVec.toNat_shiftLeft, -BitVec.toNat_setWidth]

theorem entryHi_eq (vpn2 : BitVec 19) (asid : BitVec 8) :
    vpn2 ++ 0#5 ++ asid = (vpn2.setWidth 32 <<< 13) ||| asid.setWidth 32 := by
  refine BitVec.eq_of_toNat_eq ?_
  rw [BitVec.toNat_append, BitVec.toNat_append]
  simp [toNat_field, ← Nat.shiftLeft_add, BitVec.toNat_setWidth_of_le, -BitVec.toNat_shiftLeft, -BitVec.toNat_setWidth]

theorem pageMask_eq (mask : BitVec 12) : 0#7 ++ mask ++ 0#13 = mask.setWidth 32 <<< 13 := by
  refine BitVec.eq_of_toNat_eq ?_
  rw [BitVec.toNat_append, BitVec.toNat_append]
  simp [toNat_field, -BitVec.toNat_shiftLeft]

/-- What TLBR loads, as shifted fields (R363). -/
theorem Cop0.loadEntry_eq (c : Cop0) (e : TlbEntry) :
    c.loadEntry e =
      { c with
        pageMask := e.mask.setWidth 32 <<< 13
        entryHi := (e.vpn2.setWidth 32 <<< 13) ||| e.asid.setWidth 32
        entryLo0 := entryLoFields e.even e.global
        entryLo1 := entryLoFields e.odd e.global } := by
  rw [loadEntry, pageMask_eq, entryHi_eq, TlbEntry.entryLo_eq, TlbEntry.entryLo_eq]
  rfl

/-- Settles O18: the writes by the slot of each instruction, TLBR by the registers' fields. -/
theorem tlbReadsAndWrites : Obligations.TlbReadsAndWrites := by
  refine ⟨fun s hu => ⟨writesTlb_of_finish (exec_tlbwi hu), fun hw => ?_, exec_tlbwr_refused hu⟩, fun s hu => ?_⟩
  · exact ⟨_, toNat_randomSlot hw, writesTlb_of_finish (exec_tlbwr hu hw)⟩
  · have hLoads := writesCop0_of_finish (exec_tlbr hu)
    rw [Cop0.loadEntry_eq] at hLoads
    exact hLoads

end Sys2Proof.Machine
end

section
/-! PROOF. Alignment (R87): every aligned access tests it before anything else. -/

namespace Sys2Proof.Machine

/-- SC and SCD test alignment whatever LLbit is (R292, R293). -/
theorem storeConditional_misaligned {s : State} {ea : Word} {n : Nat} (ha : alignedTo n ea = false) (rt : RegNum) :
    storeConditional s rt ea n = raise s (.addressError .store ea) :=
  whenAligned_misaligned ha .store _

theorem alignedTo_eq_false {n : Nat} {ea : Word} (h : ea.toNat % n ≠ 0) : alignedTo n ea = false := by
  simpa [alignedTo] using h

/-- With CU1 = 1 a COP1 instruction raises what its work raises. -/
theorem raises_of_whenCop1 {i : Instr} {s : State} {e : Exc} {k : Result} (hi : exec i s = whenCop1 s k) (hk : k = raise s e)
    (hu : s.cu1 = true) : Raises i s e :=
  hi.trans ((whenCop1_usable hu k).trans hk)

/-- Settles O23: each access by the shape its meaning begins with. -/
theorem misalignedAccessRaises : Obligations.MisalignedAccessRaises := by
  intro s b r imm ea
  refine ⟨fun h => ?half, fun h => ?word, fun h => ?doubleword⟩
  all_goals have ha := alignedTo_eq_false h
  case half => exact ⟨loadAt_misaligned ha _, loadAt_misaligned ha _, storeAt_misaligned ha _⟩
  case word =>
    exact ⟨loadAt_misaligned ha _, loadAt_misaligned ha _, loadAt_misaligned ha _, storeAt_misaligned ha _,
      storeConditional_misaligned ha r, fun hu =>
        ⟨raises_of_whenCop1 rfl (loadAt_misaligned ha _) hu, raises_of_whenCop1 rfl (storeAt_misaligned ha _) hu⟩⟩
  case doubleword =>
    exact ⟨loadAt_misaligned ha _, loadAt_misaligned ha _, storeAt_misaligned ha _, storeConditional_misaligned ha r, fun hu =>
      ⟨raises_of_whenCop1 rfl (loadAt_misaligned ha _) hu,
        raises_of_whenCop1 rfl (whenAligned_misaligned ha .store _) hu⟩⟩

end Sys2Proof.Machine
end

section
/-! PROOF. Words of the three formats as their fields (R132 to R141), and the ignored bits (R148) as the fields that an equation
of words does not test. As in the two sections after it the theorems are elaborated one after the other: each under way holds a
thread of its own. -/

set_option Elab.async false

namespace Sys2Proof

section fields
variable (v w : Word)

@[simp] theorem fieldOpcode_and : fieldOpcode (v &&& w) = fieldOpcode v &&& fieldOpcode w := BitVec.extractLsb'_and
@[simp] theorem fieldRs_and : fieldRs (v &&& w) = fieldRs v &&& fieldRs w := BitVec.extractLsb'_and
@[simp] theorem fieldRt_and : fieldRt (v &&& w) = fieldRt v &&& fieldRt w := BitVec.extractLsb'_and
@[simp] theorem fieldRd_and : fieldRd (v &&& w) = fieldRd v &&& fieldRd w := BitVec.extractLsb'_and
@[simp] theorem fieldSa_and : fieldSa (v &&& w) = fieldSa v &&& fieldSa w := BitVec.extractLsb'_and
@[simp] theorem fieldFunct_and : fieldFunct (v &&& w) = fieldFunct v &&& fieldFunct w := BitVec.extractLsb'_and
@[simp] theorem fieldImm_and : fieldImm (v &&& w) = fieldImm v &&& fieldImm w := BitVec.extractLsb'_and

/-! ### A word is its fields -/

theorem encodeI_fields : encodeI (fieldOpcode w) (fieldRs w) (fieldRt w) (fieldImm w) = w := by
  apply BitVec.eq_of_getLsbD_eq
  intro i hi
  simp only [fieldOpcode, fieldRs, fieldRt, fieldImm, encodeI, BitVec.getLsbD_extractLsb', BitVec.getLsbD_append]
  grind

theorem encodeR_fields :
    encodeR (fieldOpcode w) (fieldRs w) (fieldRt w) (fieldRd w) (fieldSa w) (fieldFunct w) = w := by
  apply BitVec.eq_of_getLsbD_eq
  intro i hi
  simp only [fieldOpcode, fieldRs, fieldRt, fieldRd, fieldSa, fieldFunct, encodeR, BitVec.getLsbD_extractLsb',
    BitVec.getLsbD_append]
  grind

theorem encodeJ_fields : encodeJ (fieldOpcode w) (fieldTarget w) = w := by
  apply BitVec.eq_of_getLsbD_eq
  intro i hi
  simp only [fieldOpcode, fieldTarget, encodeJ, BitVec.getLsbD_extractLsb', BitVec.getLsbD_append]
  grind

end fields

section formats
variable {w : Word} {op op' : BitVec 6} {a b c d a' b' c' d' : BitVec 5} {imm imm' : Half} {f f' : BitVec 6} {t : BitVec 26}

theorem eq_encodeI_iff :
    w = encodeI op a b imm ↔ fieldOpcode w = op ∧ fieldRs w = a ∧ fieldRt w = b ∧ fieldImm w = imm := by
  constructor
  · rintro rfl; simp
  · rintro ⟨rfl, rfl, rfl, rfl⟩; exact (encodeI_fields w).symm

theorem eq_encodeR_iff : w = encodeR op a b c d f ↔
    fieldOpcode w = op ∧ fieldRs w = a ∧ fieldRt w = b ∧ fieldRd w = c ∧ fieldSa w = d ∧ fieldFunct w = f := by
  constructor
  · rintro rfl; simp
  · rintro ⟨rfl, rfl, rfl, rfl, rfl, rfl⟩; exact (encodeR_fields w).symm

theorem eq_encodeJ_iff : w = encodeJ op t ↔ fieldOpcode w = op ∧ fieldTarget w = t := by
  constructor
  · rintro rfl; simp
  · rintro ⟨rfl, rfl⟩; exact (encodeJ_fields w).symm

/-- A word under a mask that is itself made of fields, one equation per field. -/
theorem and_encodeI_eq_iff : w &&& encodeI op' a' b' imm' = encodeI op a b imm ↔
    fieldOpcode w &&& op' = op ∧ fieldRs w &&& a' = a ∧ fieldRt w &&& b' = b ∧ fieldImm w &&& imm' = imm := by
  simp [eq_encodeI_iff]

/-- The same for the format of six fields. -/
theorem and_encodeR_eq_iff : w &&& encodeR op' a' b' c' d' f' = encodeR op a b c d f ↔
    fieldOpcode w &&& op' = op ∧ fieldRs w &&& a' = a ∧ fieldRt w &&& b' = b ∧ fieldRd w &&& c' = c ∧
      fieldSa w &&& d' = d ∧ fieldFunct w &&& f' = f := by
  simp [eq_encodeR_iff]

/-! ### The ignored bits of each kind of row (R148): the field equations that are left

Each lemma is named after the fields that its rows ignore. -/

theorem ignoring_none_I_iff : w &&& ~~~0#32 = encodeI op a b imm ↔
    fieldOpcode w = op ∧ fieldRs w = a ∧ fieldRt w = b ∧ fieldImm w = imm := by
  rw [show ~~~0#32 = .allOnes 32 from rfl, BitVec.and_allOnes, eq_encodeI_iff]

theorem ignoring_none_R_iff : w &&& ~~~0#32 = encodeR op a b c d f ↔
    fieldOpcode w = op ∧ fieldRs w = a ∧ fieldRt w = b ∧ fieldRd w = c ∧ fieldSa w = d ∧ fieldFunct w = f := by
  rw [show ~~~0#32 = .allOnes 32 from rfl, BitVec.and_allOnes, eq_encodeR_iff]

theorem ignoring_none_J_iff : w &&& ~~~0#32 = encodeJ op t ↔ fieldOpcode w = op ∧ fieldTarget w = t := by
  rw [show ~~~0#32 = .allOnes 32 from rfl, BitVec.and_allOnes, eq_encodeJ_iff]

theorem ignoring_rs_I_iff : w &&& ~~~0x03E00000#32 = encodeI op 0#5 b imm ↔
    fieldOpcode w = op ∧ fieldRt w = b ∧ fieldImm w = imm := by
  rw [show ~~~0x03E00000#32 = encodeI (.allOnes _) 0#5 (.allOnes _) (.allOnes _) from rfl, and_encodeI_eq_iff]
  simp [-BitVec.reduceAllOnes]

theorem ignoring_rt_I_iff : w &&& ~~~0x001F0000#32 = encodeI op a 0#5 imm ↔
    fieldOpcode w = op ∧ fieldRs w = a ∧ fieldImm w = imm := by
  rw [show ~~~0x001F0000#32 = encodeI (.allOnes _) (.allOnes _) 0#5 (.allOnes _) from rfl, and_encodeI_eq_iff]
  simp [-BitVec.reduceAllOnes]

theorem ignoring_sa_iff : w &&& ~~~0x000007C0#32 = encodeR op a b c 0#5 f ↔
    fieldOpcode w = op ∧ fieldRs w = a ∧ fieldRt w = b ∧ fieldRd w = c ∧ fieldFunct w = f := by
  rw [show ~~~0x000007C0#32 = encodeR (.allOnes _) (.allOnes _) (.allOnes _) (.allOnes _) 0#5 (.allOnes _) from rfl,
    and_encodeR_eq_iff]
  simp [-BitVec.reduceAllOnes]

theorem ignoring_rs_R_iff : w &&& ~~~0x03E00000#32 = encodeR op 0#5 b c d f ↔
    fieldOpcode w = op ∧ fieldRt w = b ∧ fieldRd w = c ∧ fieldSa w = d ∧ fieldFunct w = f := by
  rw [show ~~~0x03E00000#32 = encodeR (.allOnes _) 0#5 (.allOnes _) (.allOnes _) (.allOnes _) (.allOnes _) from rfl,
    and_encodeR_eq_iff]
  simp [-BitVec.reduceAllOnes]

theorem ignoring_rt_R_iff : w &&& ~~~0x001F0000#32 = encodeR op a 0#5 c d f ↔
    fieldOpcode w = op ∧ fieldRs w = a ∧ fieldRd w = c ∧ fieldSa w = d ∧ fieldFunct w = f := by
  rw [show ~~~0x001F0000#32 = encodeR (.allOnes _) (.allOnes _) 0#5 (.allOnes _) (.allOnes _) (.allOnes _) from rfl,
    and_encodeR_eq_iff]
  simp [-BitVec.reduceAllOnes]

theorem ignoring_rs_rt_sa_iff : w &&& ~~~0x03FF07C0#32 = encodeR op 0#5 0#5 c 0#5 f ↔
    fieldOpcode w = op ∧ fieldRd w = c ∧ fieldFunct w = f := by
  rw [show ~~~0x03FF07C0#32 = encodeR (.allOnes _) 0#5 0#5 (.allOnes _) 0#5 (.allOnes _) from rfl, and_encodeR_eq_iff]
  simp [-BitVec.reduceAllOnes]

theorem ignoring_rt_rd_sa_iff : w &&& ~~~0x001FFFC0#32 = encodeR op a 0#5 0#5 0#5 f ↔
    fieldOpcode w = op ∧ fieldRs w = a ∧ fieldFunct w = f := by
  rw [show ~~~0x001FFFC0#32 = encodeR (.allOnes _) (.allOnes _) 0#5 0#5 0#5 (.allOnes _) from rfl, and_encodeR_eq_iff]
  simp [-BitVec.reduceAllOnes]

theorem ignoring_rd_sa_iff : w &&& ~~~0x0000FFC0#32 = encodeR op a b 0#5 0#5 f ↔
    fieldOpcode w = op ∧ fieldRs w = a ∧ fieldRt w = b ∧ fieldFunct w = f := by
  rw [show ~~~0x0000FFC0#32 = encodeR (.allOnes _) (.allOnes _) (.allOnes _) 0#5 0#5 (.allOnes _) from rfl,
    and_encodeR_eq_iff]
  simp [-BitVec.reduceAllOnes]

theorem ignoring_rt_sa_iff : w &&& ~~~0x001F07C0#32 = encodeR op a 0#5 c 0#5 f ↔
    fieldOpcode w = op ∧ fieldRs w = a ∧ fieldRd w = c ∧ fieldFunct w = f := by
  rw [show ~~~0x001F07C0#32 = encodeR (.allOnes _) (.allOnes _) 0#5 (.allOnes _) 0#5 (.allOnes _) from rfl,
    and_encodeR_eq_iff]
  simp [-BitVec.reduceAllOnes]

theorem ignoring_rs_rt_rd_sa_iff : w &&& ~~~0x03FFFFC0#32 = encodeR op 0#5 0#5 0#5 0#5 f ↔
    fieldOpcode w = op ∧ fieldFunct w = f := by
  rw [show ~~~0x03FFFFC0#32 = encodeR (.allOnes _) 0#5 0#5 0#5 0#5 (.allOnes _) from rfl, and_encodeR_eq_iff]
  simp [-BitVec.reduceAllOnes]

theorem ignoring_sa_funct_iff : w &&& ~~~0x000007FF#32 = encodeR op a b c 0#5 0#6 ↔
    fieldOpcode w = op ∧ fieldRs w = a ∧ fieldRt w = b ∧ fieldRd w = c := by
  rw [show ~~~0x000007FF#32 = encodeR (.allOnes _) (.allOnes _) (.allOnes _) (.allOnes _) 0#5 0#6 from rfl,
    and_encodeR_eq_iff]
  simp [-BitVec.reduceAllOnes]

end formats

end Sys2Proof
end

section
/-! PROOF. The decoder against the encoder (R147, R148): a word decodes to an instruction exactly when, outside the ignored bits,
it is that instruction's encoding. -/

set_option Elab.async false

namespace Sys2Proof

/-! ### The tables below the major opcode (R147, steps 2 and 3) -/

section dispatch
variable {w : Word}

theorem decodeWord_special (h : fieldOpcode w = 0#6) : decodeWord w = decodeSpecial w := by rw [decodeWord, h]; rfl
theorem decodeWord_regimm (h : fieldOpcode w = 1#6) : decodeWord w = decodeRegimm w := by rw [decodeWord, h]; rfl
theorem decodeWord_cop0 (h : fieldOpcode w = 16#6) : decodeWord w = decodeCop0 w := by rw [decodeWord, h]; rfl
theorem decodeWord_cop1 (h : fieldOpcode w = 17#6) : decodeWord w = decodeCop1 w := by rw [decodeWord, h]; rfl
theorem decodeCop0_function (h : fieldRs w = 16#5) : decodeCop0 w = decodeCop0Function w := by rw [decodeCop0, h]; rfl
theorem decodeCop1_branch (h : fieldRs w = 8#5) : decodeCop1 w = decodeCop1Branch w := by rw [decodeCop1, h]; rfl
theorem decodeCop1_single (h : fieldRs w = 16#5) : decodeCop1 w = decodeCop1Single w := by rw [decodeCop1, h]; rfl
theorem decodeCop1_double (h : fieldRs w = 17#5) : decodeCop1 w = decodeCop1Double w := by rw [decodeCop1, h]; rfl
theorem decodeCop1_word (h : fieldRs w = 20#5) : decodeCop1 w = decodeCop1Word w := by rw [decodeCop1, h]; rfl
theorem decodeCop1_long (h : fieldRs w = 21#5) : decodeCop1 w = decodeCop1Long w := by rw [decodeCop1, h]; rfl

end dispatch

/-! ### From the encoding to the instruction -/

/-- The decoder reads no bit that the row ignores: a word that is the encoding of `i` outside the ignored bits decodes to `i`.
One case for each table and kind of row: the equation of words gives the fields that the tables look up, and the operands. -/
theorem decodeWord_of_encoding {w : Word} {i : Instr} (hi : i.wellFormed = true) (h : w &&& ~~~ignoredBits i = encode i) :
    decodeWord w = .ok i := by
  cases i
  case addi | addiu | slti | sltiu | andi | ori | xori | daddi | daddiu | lb | lbu | lh | lhu | lw | lwu | ld | lwl | lwr |
      ldl | ldr | sb | sh | sw | sd | swl | swr | sdl | sdr | ll | lld | sc | scd | beq | bne | beql | bnel | lwc1 | ldc1 |
      swc1 | sdc1 =>
    obtain ⟨ho, rfl, rfl, rfl⟩ := ignoring_none_I_iff.1 h
    rw [decodeWord, ho]
    rfl
  case lui =>
    obtain ⟨ho, rfl, rfl⟩ := ignoring_rs_I_iff.1 h
    rw [decodeWord, ho]
    rfl
  case j | jal =>
    obtain ⟨ho, rfl⟩ := ignoring_none_J_iff.1 h
    rw [decodeWord, ho]
    rfl
  case blez | bgtz | blezl | bgtzl =>
    obtain ⟨ho, rfl, rfl⟩ := ignoring_rt_I_iff.1 h
    rw [decodeWord, ho]
    rfl
  case cache =>
    obtain ⟨ho, rfl, hn, rfl⟩ := ignoring_none_I_iff.1 h
    rw [decodeWord, ho, hn, toNat_ofNat5 _ hi]
    rfl
  case add | addu | sub | subu | and | or | xor | nor | slt | sltu | dadd | daddu | dsub | dsubu | sllv | srlv | srav | dsllv
      | dsrlv | dsrav =>
    obtain ⟨ho, rfl, rfl, rfl, hf⟩ := ignoring_sa_iff.1 h
    rw [decodeWord_special ho, decodeSpecial, hf]
    rfl
  case sll | srl | sra | dsll | dsrl | dsra | dsll32 | dsrl32 | dsra32 =>
    obtain ⟨ho, rfl, rfl, hn, hf⟩ := ignoring_rs_R_iff.1 h
    rw [decodeWord_special ho, decodeSpecial, hf, hn, toNat_ofNat5 _ hi]
    rfl
  case mfhi | mflo =>
    obtain ⟨ho, rfl, hf⟩ := ignoring_rs_rt_sa_iff.1 h
    rw [decodeWord_special ho, decodeSpecial, hf]
    rfl
  case mthi | mtlo | jr =>
    obtain ⟨ho, rfl, hf⟩ := ignoring_rt_rd_sa_iff.1 h
    rw [decodeWord_special ho, decodeSpecial, hf]
    rfl
  case mult | multu | div | divu | dmult | dmultu | ddiv | ddivu | tge | tgeu | tlt | tltu | teq | tne =>
    obtain ⟨ho, rfl, rfl, hf⟩ := ignoring_rd_sa_iff.1 h
    rw [decodeWord_special ho, decodeSpecial, hf]
    rfl
  case jalr =>
    obtain ⟨ho, rfl, rfl, hf⟩ := ignoring_rt_sa_iff.1 h
    rw [decodeWord_special ho, decodeSpecial, hf]
    rfl
  case syscall | break_ | sync =>
    obtain ⟨ho, hf⟩ := ignoring_rs_rt_rd_sa_iff.1 h
    rw [decodeWord_special ho, decodeSpecial, hf]
    rfl
  case bltz | bgez | bltzl | bgezl | bltzal | bgezal | bltzall | bgezall | tgei | tgeiu | tlti | tltiu | teqi | tnei =>
    obtain ⟨ho, rfl, ht, rfl⟩ := ignoring_none_I_iff.1 h
    rw [decodeWord_regimm ho, decodeRegimm, ht]
    rfl
  case mfc0 | mtc0 =>
    obtain ⟨ho, hs, rfl, rfl⟩ := ignoring_sa_funct_iff.1 h
    rw [decodeWord_cop0 ho, decodeCop0, hs]
    rfl
  case tlbr | tlbwi | tlbwr | tlbp | eret =>
    obtain ⟨ho, hs, hf⟩ := ignoring_rt_rd_sa_iff.1 h
    rw [decodeWord_cop0 ho, decodeCop0_function hs, decodeCop0Function, hf]
    rfl
  case mfc1 | dmfc1 | cfc1 | mtc1 | dmtc1 | ctc1 =>
    obtain ⟨ho, hs, rfl, rfl⟩ := ignoring_sa_funct_iff.1 h
    rw [decodeWord_cop1 ho, decodeCop1, hs]
    rfl
  case bc1f | bc1t | bc1fl | bc1tl =>
    obtain ⟨ho, hs, ht, rfl⟩ := ignoring_none_I_iff.1 h
    rw [decodeWord_cop1 ho, decodeCop1_branch hs, decodeCop1Branch, ht]
    rfl
  case addS | subS | mulS | divS =>
    obtain ⟨ho, hs, rfl, rfl, rfl, hf⟩ := ignoring_none_R_iff.1 h
    rw [decodeWord_cop1 ho, decodeCop1_single hs, decodeCop1Single, hf]
    rfl
  case addD | subD | mulD | divD =>
    obtain ⟨ho, hs, rfl, rfl, rfl, hf⟩ := ignoring_none_R_iff.1 h
    rw [decodeWord_cop1 ho, decodeCop1_double hs, decodeCop1Double, hf]
    rfl
  case sqrtS | absS | movS | negS | roundLS | truncLS | ceilLS | floorLS | roundWS | truncWS | ceilWS | floorWS | cvtDS |
      cvtWS | cvtLS =>
    obtain ⟨ho, hs, rfl, rfl, hf⟩ := ignoring_rt_R_iff.1 h
    rw [decodeWord_cop1 ho, decodeCop1_single hs, decodeCop1Single, hf]
    rfl
  case sqrtD | absD | movD | negD | roundLD | truncLD | ceilLD | floorLD | roundWD | truncWD | ceilWD | floorWD | cvtSD |
      cvtWD | cvtLD =>
    obtain ⟨ho, hs, rfl, rfl, hf⟩ := ignoring_rt_R_iff.1 h
    rw [decodeWord_cop1 ho, decodeCop1_double hs, decodeCop1Double, hf]
    rfl
  case cvtSW | cvtDW =>
    obtain ⟨ho, hs, rfl, rfl, hf⟩ := ignoring_rt_R_iff.1 h
    rw [decodeWord_cop1 ho, decodeCop1_word hs, decodeCop1Word, hf]
    rfl
  case cvtSL | cvtDL =>
    obtain ⟨ho, hs, rfl, rfl, hf⟩ := ignoring_rt_R_iff.1 h
    rw [decodeWord_cop1 ho, decodeCop1_long hs, decodeCop1Long, hf]
    rfl
  case cFS | cUnS | cEqS | cUeqS | cOltS | cUltS | cOleS | cUleS | cSfS | cNgleS | cSeqS | cNglS | cLtS | cNgeS | cLeS |
      cNgtS =>
    obtain ⟨ho, hs, rfl, rfl, hf⟩ := ignoring_sa_iff.1 h
    rw [decodeWord_cop1 ho, decodeCop1_single hs, decodeCop1Single, hf]
    rfl
  case cFD | cUnD | cEqD | cUeqD | cOltD | cUltD | cOleD | cUleD | cSfD | cNgleD | cSeqD | cNglD | cLtD | cNgeD | cLeD |
      cNgtD =>
    obtain ⟨ho, hs, rfl, rfl, hf⟩ := ignoring_sa_iff.1 h
    rw [decodeWord_cop1 ho, decodeCop1_double hs, decodeCop1Double, hf]
    rfl

/-- The encoder writes the ignored bits as zeros (log 25). -/
theorem encode_and_not_ignoredBits (i : Instr) : encode i &&& ~~~ignoredBits i = encode i := by
  cases i
  all_goals
    simp [-BitVec.reduceNot, -BitVec.not_zero, encode, ignoredBits, ignoring_none_I_iff, ignoring_none_R_iff,
      ignoring_none_J_iff, ignoring_rs_I_iff, ignoring_rt_I_iff, ignoring_sa_iff, ignoring_rs_R_iff, ignoring_rt_R_iff,
      ignoring_rs_rt_sa_iff, ignoring_rt_rd_sa_iff, ignoring_rd_sa_iff, ignoring_rt_sa_iff, ignoring_rs_rt_rd_sa_iff,
      ignoring_sa_funct_iff]

/-- Decoding inverts encoding. -/
theorem decodeWord_encode {i : Instr} (hi : i.wellFormed = true) : decodeWord (encode i) = .ok i :=
  decodeWord_of_encoding hi (encode_and_not_ignoredBits i)

/-! ### From the instruction to the encoding -/

/-- The number that a table tests, as the field it is read from. -/
theorem eq_ofNat_of_toNat_eq {n k : Nat} {v : BitVec n} (h : v.toNat = k) : v = BitVec.ofNat n k := by
  rw [← h, BitVec.ofNat_toNat, BitVec.setWidth_eq]

section tables
variable {w : Word} {i : Instr}

theorem encoding_of_decodeSpecial (ho : fieldOpcode w = 0#6) (h : decodeSpecial w = .ok i) :
    w &&& ~~~ignoredBits i = encode i := by
  unfold decodeSpecial at h
  split at h <;> cases h
  all_goals
    rename_i hf
    have hf := eq_ofNat_of_toNat_eq hf
    simp [-BitVec.reduceNot, -BitVec.not_zero, encode, ignoredBits, ho, hf, ignoring_sa_iff, ignoring_rs_R_iff,
      ignoring_rs_rt_sa_iff, ignoring_rt_rd_sa_iff, ignoring_rd_sa_iff, ignoring_rt_sa_iff, ignoring_rs_rt_rd_sa_iff]

theorem encoding_of_decodeRegimm (ho : fieldOpcode w = 1#6) (h : decodeRegimm w = .ok i) :
    w &&& ~~~ignoredBits i = encode i := by
  unfold decodeRegimm at h
  split at h <;> cases h
  all_goals
    rename_i ht
    exact ignoring_none_I_iff.2 ⟨ho, rfl, eq_ofNat_of_toNat_eq ht, rfl⟩

theorem encoding_of_decodeCop0Function (ho : fieldOpcode w = 16#6) (hs : fieldRs w = 16#5)
    (h : decodeCop0Function w = .ok i) : w &&& ~~~ignoredBits i = encode i := by
  unfold decodeCop0Function at h
  split at h <;> cases h
  all_goals
    rename_i hf
    exact ignoring_rt_rd_sa_iff.2 ⟨ho, hs, eq_ofNat_of_toNat_eq hf⟩

theorem encoding_of_decodeCop0 (ho : fieldOpcode w = 16#6) (h : decodeCop0 w = .ok i) :
    w &&& ~~~ignoredBits i = encode i := by
  unfold decodeCop0 at h
  split at h
  case h_3 hs => exact encoding_of_decodeCop0Function ho (eq_ofNat_of_toNat_eq hs) h
  all_goals cases h
  all_goals
    rename_i hs
    exact ignoring_sa_funct_iff.2 ⟨ho, eq_ofNat_of_toNat_eq hs, rfl, rfl⟩

theorem encoding_of_decodeCop1Branch (ho : fieldOpcode w = 17#6) (hs : fieldRs w = 8#5)
    (h : decodeCop1Branch w = .ok i) : w &&& ~~~ignoredBits i = encode i := by
  unfold decodeCop1Branch at h
  split at h <;> cases h
  all_goals
    rename_i ht
    exact ignoring_none_I_iff.2 ⟨ho, hs, eq_ofNat_of_toNat_eq ht, rfl⟩

theorem encoding_of_decodeCop1Single (ho : fieldOpcode w = 17#6) (hs : fieldRs w = 16#5)
    (h : decodeCop1Single w = .ok i) : w &&& ~~~ignoredBits i = encode i := by
  unfold decodeCop1Single at h
  split at h <;> cases h
  all_goals
    rename_i hf
    have hf := eq_ofNat_of_toNat_eq hf
    simp [-BitVec.reduceNot, -BitVec.not_zero, encode, ignoredBits, ho, hs, hf, ignoring_sa_iff, ignoring_rt_R_iff,
      ignoring_none_R_iff]

theorem encoding_of_decodeCop1Double (ho : fieldOpcode w = 17#6) (hs : fieldRs w = 17#5)
    (h : decodeCop1Double w = .ok i) : w &&& ~~~ignoredBits i = encode i := by
  unfold decodeCop1Double at h
  split at h <;> cases h
  all_goals
    rename_i hf
    have hf := eq_ofNat_of_toNat_eq hf
    simp [-BitVec.reduceNot, -BitVec.not_zero, encode, ignoredBits, ho, hs, hf, ignoring_sa_iff, ignoring_rt_R_iff,
      ignoring_none_R_iff]

theorem encoding_of_decodeCop1Word (ho : fieldOpcode w = 17#6) (hs : fieldRs w = 20#5)
    (h : decodeCop1Word w = .ok i) : w &&& ~~~ignoredBits i = encode i := by
  unfold decodeCop1Word at h
  split at h <;> cases h
  all_goals
    rename_i hf
    exact ignoring_rt_R_iff.2 ⟨ho, hs, rfl, rfl, eq_ofNat_of_toNat_eq hf⟩

theorem encoding_of_decodeCop1Long (ho : fieldOpcode w = 17#6) (hs : fieldRs w = 21#5)
    (h : decodeCop1Long w = .ok i) : w &&& ~~~ignoredBits i = encode i := by
  unfold decodeCop1Long at h
  split at h <;> cases h
  all_goals
    rename_i hf
    exact ignoring_rt_R_iff.2 ⟨ho, hs, rfl, rfl, eq_ofNat_of_toNat_eq hf⟩

theorem encoding_of_decodeCop1 (ho : fieldOpcode w = 17#6) (h : decodeCop1 w = .ok i) :
    w &&& ~~~ignoredBits i = encode i := by
  unfold decodeCop1 at h
  split at h
  case h_7 hs => exact encoding_of_decodeCop1Branch ho (eq_ofNat_of_toNat_eq hs) h
  case h_8 hs => exact encoding_of_decodeCop1Single ho (eq_ofNat_of_toNat_eq hs) h
  case h_9 hs => exact encoding_of_decodeCop1Double ho (eq_ofNat_of_toNat_eq hs) h
  case h_10 hs => exact encoding_of_decodeCop1Word ho (eq_ofNat_of_toNat_eq hs) h
  case h_11 hs => exact encoding_of_decodeCop1Long ho (eq_ofNat_of_toNat_eq hs) h
  all_goals cases h
  all_goals
    rename_i hs
    exact ignoring_sa_funct_iff.2 ⟨ho, eq_ofNat_of_toNat_eq hs, rfl, rfl⟩

/-- What a word decodes to has that word as its encoding, outside the ignored bits (R148). -/
theorem encoding_of_decodeWord (h : decodeWord w = .ok i) : w &&& ~~~ignoredBits i = encode i := by
  unfold decodeWord at h
  split at h
  case h_1 ho => exact encoding_of_decodeSpecial (eq_ofNat_of_toNat_eq ho) h
  case h_2 ho => exact encoding_of_decodeRegimm (eq_ofNat_of_toNat_eq ho) h
  case h_17 ho => exact encoding_of_decodeCop0 (eq_ofNat_of_toNat_eq ho) h
  case h_18 ho => exact encoding_of_decodeCop1 (eq_ofNat_of_toNat_eq ho) h
  all_goals cases h
  all_goals
    rename_i ho
    have ho := eq_ofNat_of_toNat_eq ho
    simp [-BitVec.reduceNot, -BitVec.not_zero, encode, ignoredBits, ho, ignoring_none_I_iff, ignoring_rs_I_iff,
      ignoring_rt_I_iff, ignoring_none_J_iff]

end tables

/-! ### The obligations -/

/-- Settles O1: the bytes join to the word (`decode_wordBytes`), and the word decodes to the instruction. -/
theorem decodeInvertsEncode : Obligations.DecodeInvertsEncode := by
  intro i rest hi
  rw [encodeBytes, decode_wordBytes, decodeWord_encode hi]
  rfl

/-- Settles O2, one lemma for each direction. -/
theorem decodesExactlyItsEncodings : Obligations.DecodesExactlyItsEncodings :=
  ⟨fun _ _ hi => ⟨encoding_of_decodeWord, decodeWord_of_encoding hi⟩, fun _ _ => decodeWord_wellFormed⟩

end Sys2Proof
end

section
/-! PROOF. The reserved encodings, table by table (R150). In each table the arm of the error comes last, where the numbers of the
other arms are ruled out. -/

set_option Elab.async false

namespace Sys2Proof

section tables
variable {w : Word}

/-- An arm that gives an instruction gives no error. -/
theorem ok_ne_error (i : Instr) : ¬ ∃ e, (Except.ok i : Decoded) = .error e := by
  rintro ⟨_, ⟨⟩⟩

/-! ### The tables with no table below them -/

theorem decodeSpecial_error_iff : (∃ e, decodeSpecial w = .error e) ↔
    (fieldFunct w).toNat ∈ [1, 5, 10, 11, 14, 21, 40, 41, 53, 55, 57, 61] := by
  have hlt := (fieldFunct w).isLt
  unfold decodeSpecial
  split
  case h_53 => simp; grind
  all_goals
    rename_i h
    exact iff_of_false (ok_ne_error _) (by rw [h]; decide)

theorem decodeRegimm_error_iff : (∃ e, decodeRegimm w = .error e) ↔
    (4 ≤ (fieldRt w).toNat ∧ (fieldRt w).toNat ≤ 7) ∨ (fieldRt w).toNat = 13 ∨ (fieldRt w).toNat = 15 ∨
      20 ≤ (fieldRt w).toNat := by
  have hlt := (fieldRt w).isLt
  unfold decodeRegimm
  split
  case h_15 => simp; grind
  all_goals
    rename_i h
    exact iff_of_false (ok_ne_error _) (by rw [h]; decide)

theorem decodeCop0Function_error_iff : (∃ e, decodeCop0Function w = .error e) ↔
    (fieldFunct w).toNat ∉ [1, 2, 6, 8, 24] := by
  unfold decodeCop0Function
  split
  case h_6 => simp; grind
  all_goals
    rename_i h
    exact iff_of_false (ok_ne_error _) (by rw [h]; decide)

theorem decodeCop1Branch_error_iff : (∃ e, decodeCop1Branch w = .error e) ↔ 4 ≤ (fieldRt w).toNat := by
  unfold decodeCop1Branch
  split
  case h_5 => simp; grind
  all_goals
    rename_i h
    exact iff_of_false (ok_ne_error _) (by rw [h]; decide)

theorem decodeCop1Single_error_iff : (∃ e, decodeCop1Single w = .error e) ↔
    (16 ≤ (fieldFunct w).toNat ∧ (fieldFunct w).toNat ≤ 31) ∨ (fieldFunct w).toNat ∈ [32, 34, 35] ∨
      (38 ≤ (fieldFunct w).toNat ∧ (fieldFunct w).toNat ≤ 47) := by
  have hlt := (fieldFunct w).isLt
  unfold decodeCop1Single
  split
  case h_36 => simp; grind
  all_goals
    rename_i h
    exact iff_of_false (ok_ne_error _) (by rw [h]; decide)

theorem decodeCop1Double_error_iff : (∃ e, decodeCop1Double w = .error e) ↔
    (16 ≤ (fieldFunct w).toNat ∧ (fieldFunct w).toNat ≤ 31) ∨ (fieldFunct w).toNat ∈ [33, 34, 35] ∨
      (38 ≤ (fieldFunct w).toNat ∧ (fieldFunct w).toNat ≤ 47) := by
  have hlt := (fieldFunct w).isLt
  unfold decodeCop1Double
  split
  case h_36 => simp; grind
  all_goals
    rename_i h
    exact iff_of_false (ok_ne_error _) (by rw [h]; decide)

theorem decodeCop1Word_error_iff : (∃ e, decodeCop1Word w = .error e) ↔ (fieldFunct w).toNat ∉ [32, 33] := by
  unfold decodeCop1Word
  split
  case h_3 => simp; grind
  all_goals
    rename_i h
    exact iff_of_false (ok_ne_error _) (by rw [h]; decide)

theorem decodeCop1Long_error_iff : (∃ e, decodeCop1Long w = .error e) ↔ (fieldFunct w).toNat ∉ [32, 33] := by
  unfold decodeCop1Long
  split
  case h_3 => simp; grind
  all_goals
    rename_i h
    exact iff_of_false (ok_ne_error _) (by rw [h]; decide)

/-! ### The tables that lead to others: reserved themselves, or reserved in the table they lead to -/

theorem decodeCop0_error_iff : (∃ e, decodeCop0 w = .error e) ↔
    (fieldRs w).toNat ∉ [0, 4, 16] ∨ ((fieldRs w).toNat = 16 ∧ ∃ e, decodeCop0Function w = .error e) := by
  unfold decodeCop0
  split
  case h_4 => simp; grind
  all_goals
    rename_i h
    simp [h]

theorem decodeCop1_error_iff : (∃ e, decodeCop1 w = .error e) ↔
    (fieldRs w).toNat ∉ [0, 1, 2, 4, 5, 6, 8, 16, 17, 20, 21] ∨
      ((fieldRs w).toNat = 8 ∧ ∃ e, decodeCop1Branch w = .error e) ∨
      ((fieldRs w).toNat = 16 ∧ ∃ e, decodeCop1Single w = .error e) ∨
      ((fieldRs w).toNat = 17 ∧ ∃ e, decodeCop1Double w = .error e) ∨
      ((fieldRs w).toNat = 20 ∧ ∃ e, decodeCop1Word w = .error e) ∨
      ((fieldRs w).toNat = 21 ∧ ∃ e, decodeCop1Long w = .error e) := by
  unfold decodeCop1
  split
  case h_12 => simp; grind
  all_goals
    rename_i h
    simp [h]

theorem decodeWord_error_iff : (∃ e, decodeWord w = .error e) ↔
    (fieldOpcode w).toNat ∈ [18, 19, 28, 29, 30, 31, 50, 51, 54, 58, 59, 62] ∨
      ((fieldOpcode w).toNat = 0 ∧ ∃ e, decodeSpecial w = .error e) ∨
      ((fieldOpcode w).toNat = 1 ∧ ∃ e, decodeRegimm w = .error e) ∨
      ((fieldOpcode w).toNat = 16 ∧ ∃ e, decodeCop0 w = .error e) ∨
      ((fieldOpcode w).toNat = 17 ∧ ∃ e, decodeCop1 w = .error e) := by
  have hlt := (fieldOpcode w).isLt
  unfold decodeWord
  split
  case h_53 => simp; grind
  all_goals
    rename_i h
    simp [h]

end tables

/-- Settles O3: the list of R150 is what the tables leave, read from the major opcode down. -/
theorem reservedWordsAreTheListedOnes : Obligations.ReservedWordsAreTheListedOnes := by
  intro w
  rw [decodeWord_error_iff, decodeSpecial_error_iff, decodeRegimm_error_iff, decodeCop0_error_iff,
    decodeCop0Function_error_iff, decodeCop1_error_iff, decodeCop1Branch_error_iff, decodeCop1Single_error_iff,
    decodeCop1Double_error_iff, decodeCop1Word_error_iff, decodeCop1Long_error_iff, ← or_and_right]
  rfl

end Sys2Proof
end

section
/-! PROOF. The fetch (R86, R131) and the steps that execute no instruction: a fetch that raises (R26), a reserved word (R149), a
stopped machine (R64). -/

namespace Sys2Proof.Machine

/-! ### The word a fetch gives -/

/-- Four bytes assembled are the big-endian word of them (R82, R131). -/
theorem low32_assembleBytes (byte : Nat → Byte) : low32 (assembleBytes byte 4) = byte 0 ++ byte 1 ++ byte 2 ++ byte 3 := by
  apply BitVec.eq_of_getLsbD_eq
  intro i hi
  simp only [assembleBytes, BitVec.getLsbD_setWidth, BitVec.getLsbD_or, BitVec.getLsbD_shiftLeft, BitVec.getLsbD_append]
  grind

/-- A fetch from an aligned address that translates gives the answer of the port (R86). -/
theorem State.fetch_ok {s : State} {va pa : Word} (ha : va.extractLsb' 0 2 = 0) (hp : s.translate .fetch va = .ok pa) :
    s.fetch va = .ok (low32 (s.physRead pa 4), s.afterRead pa 4) := by
  simp [State.fetch, ha, hp]

theorem State.fetch_misaligned {s : State} {va : Word} (ha : va.extractLsb' 0 2 ≠ 0) :
    s.fetch va = .raise (.addressError .fetch va) :=
  if_neg ha

theorem State.fetch_miss {s : State} {va : Word} {e : Exc} (ha : va.extractLsb' 0 2 = 0)
    (hp : s.translate .fetch va = .raise e) : s.fetch va = .raise e := by
  simp [State.fetch, ha, hp]

theorem State.allRam_iff (s : State) (a n : Nat) : s.allRam a n = true ↔ ∀ k < n, s.isRam (a + k) = true := by
  simp [State.allRam]

/-! ### The step whose fetch raises, and the step whose word is reserved -/

section
variable {s : State} (hs : s.stop = false) (hi : s.deliverEvents.interruptPending = false)
include hs hi

/-- With no interrupt to take a step runs one instruction on the state after delivery (R26, R565). -/
theorem step_eq_runInstruction : step s = runInstruction s.deliverEvents := by
  simp [step, hs, boundaryAndRun, hi]

/-- An exception of the fetch enters the handler, and time advances (R26, R86). -/
theorem step_of_fetch_raise {e : Exc} (hf : s.deliverEvents.fetch s.deliverEvents.pc = .raise e) :
    step s = .next (s.deliverEvents.exceptionEntry e).advanceTime := by
  rw [step_eq_runInstruction hs hi, runInstruction, hf]
  rfl

/-- A reserved word halts (R149). -/
theorem step_of_reserved {u : State} {w : Word} {e : DecodeError}
    (hf : s.deliverEvents.fetch s.deliverEvents.pc = .ok (w, u)) (hd : decodeWord w = .error e) :
    step s = .fault (.halt .reservedInstruction) := by
  rw [step_eq_runInstruction hs hi, runInstruction, hf]
  simp only [runWord, hd, halt]

end

/-- Once `stop` is 1 there is no step (R64). -/
theorem step_stopped {s : State} (hs : s.stop = true) : step s = .fault .stopped := by
  simp [step, hs]

/-- A step that faults leaves the `stop` output at 1 (R552). -/
theorem stopOutput_of_fault {s : State} {f : Fault} (h : step s = .fault f) : s.stopOutput = true := by
  rw [State.stopOutput, h]
  rfl

/-! ### The obligations -/

/-- Settles O6: the word from `State.fetch_ok`, the two raises from `step_of_fetch_raise`. -/
theorem fetchReadsTheWordOrRaises : Obligations.FetchReadsTheWordOrRaises := by
  refine ⟨fun s pa ha hp => ⟨?word, ?ram⟩, fun s hs hi => ⟨?misaligned, ?miss⟩⟩
  case word => rw [State.fetch_ok ha hp, State.physRead, low32_assembleBytes]; rfl
  case ram => exact fun hram => s.afterRead_ram pa 4 ((s.allRam_iff pa.toNat 4).2 hram)
  case misaligned => exact fun ha => step_of_fetch_raise hs hi (State.fetch_misaligned ha)
  case miss => exact fun ha hp => step_of_fetch_raise hs hi (State.fetch_miss ha hp)

/-- Settles O7: both outcomes are faults, and a fault sets the `stop` output. -/
theorem reservedWordHalts : Obligations.ReservedWordHalts := by
  refine ⟨fun s u w e hs hi hf hd => ?_, fun s hs => ?_⟩
  · have hStep := step_of_reserved hs hi hf hd
    exact ⟨hStep, stopOutput_of_fault hStep⟩
  · have hStep := step_stopped hs
    exact ⟨hStep, stopOutput_of_fault hStep⟩

end Sys2Proof.Machine
end

section
/-! PROOF. The integer arithmetic, logic and shift instructions (40_integer_alu.md): what each writes, when the trapping forms
overflow (R547), and the sign extension of every word result (R200). -/

namespace Sys2Proof.Machine

/-! ### Immediates and comparisons -/

/-- The sign-extended immediate has the value of its field (R142). -/
theorem toInt_immS (imm : Half) : (immS imm).toInt = imm.toInt := BitVec.toInt_signExtend_of_le (by decide)

/-- A comparison that sets a register writes 1 or 0 (R205, R221). -/
theorem boolDword_decide (p : Prop) [Decidable p] : boolDword (decide p) = if p then 1 else 0 := by
  by_cases h : p <;> simp [boolDword, h]

/-- A meaning that writes the outcome of a comparison. -/
theorem writesReg_of_comparison {i : Instr} {s : State} {rd : RegNum} {p : Prop} [Decidable p]
    (h : exec i s = writeBack s rd (boolDword (decide p))) : WritesReg i s rd (if p then 1 else 0) :=
  boolDword_decide p ▸ writesReg_of_writeBack h

theorem exec_slti (s : State) (rs rt : RegNum) (imm : Half) :
    exec (.slti rs rt imm) s = writeBack s rt (boolDword (decide ((s.readX rs).toInt < imm.toInt))) := by
  rw [← toInt_immS]; rfl

/-- Settles O31: each meaning is one `writeBack`, the four comparisons of a `boolDword`. -/
theorem untrappedArithmeticResults : Obligations.UntrappedArithmeticResults := by
  refine ⟨fun s rs rt rd => ⟨?_, ?_, ?_, ?_, ?_, ?_, ?slt, ?sltu, ?_, ?_⟩,
    fun s rs rt imm => ⟨?_, ?slti, ?sltiu, ?_, ?_, ?_, ?_, ?_⟩⟩
  case slt => exact writesReg_of_comparison rfl
  case sltu => exact writesReg_of_comparison rfl
  case slti => exact writesReg_of_comparison (exec_slti s rs rt imm)
  case sltiu => exact writesReg_of_comparison rfl
  all_goals exact writesReg_of_writeBack rfl

/-- Settles O33: each meaning is one `writeBack`, and the amounts of the variable forms are R146's fields of `rs`. -/
theorem shiftResults : Obligations.ShiftResults := by
  intro s rs rt rd sa _
  refine ⟨?_, ?_, ?_, ?_, ?_, ?_, ?_, ?_, ?_, ?_, ?_, ?_, ?_, ?_, ?_⟩
  all_goals exact writesReg_of_writeBack rfl

/-! ### Signed overflow (R547) -/

section overflow
variable {i : Instr} {s : State} {rd : RegNum} {v : Option Dword}

/-- A trapping meaning whose result fits writes it. -/
theorem writesReg_of_writeOrOverflow {r : Dword} (h : exec i s = writeOrOverflow s rd v) (hv : v = some r) :
    WritesReg i s rd r :=
  writesReg_of_writeBack (by rw [h, hv]; rfl)

/-- A trapping meaning whose result does not fit raises. -/
theorem raises_of_writeOrOverflow (h : exec i s = writeOrOverflow s rd v) (hv : v = none) : Raises i s .integerOverflow := by
  rw [Raises, h, hv]; rfl

/-- A trapping word operation with the exact result `n`. -/
theorem trapping_word {n : Int} (h : exec i s = writeOrOverflow s rd ((exactSigned 32 n).map sext64)) :
    (-2 ^ 31 ≤ n ∧ n < 2 ^ 31 → WritesReg i s rd (sext64 (BitVec.ofInt 32 n))) ∧
      (¬(-2 ^ 31 ≤ n ∧ n < 2 ^ 31) → Raises i s .integerOverflow) :=
  ⟨fun hFits => writesReg_of_writeOrOverflow h (congrArg (Option.map sext64) (if_pos hFits)),
    fun hOver => raises_of_writeOrOverflow h (congrArg (Option.map sext64) (if_neg hOver))⟩

/-- A trapping doubleword operation with the exact result `n`. -/
theorem trapping_dword {n : Int} (h : exec i s = writeOrOverflow s rd (exactSigned 64 n)) :
    (-2 ^ 63 ≤ n ∧ n < 2 ^ 63 → WritesReg i s rd (BitVec.ofInt 64 n)) ∧
      (¬(-2 ^ 63 ≤ n ∧ n < 2 ^ 63) → Raises i s .integerOverflow) :=
  ⟨fun hFits => writesReg_of_writeOrOverflow h (if_pos hFits), fun hOver => raises_of_writeOrOverflow h (if_neg hOver)⟩

end overflow

theorem exec_addi (s : State) (rs rt : RegNum) (imm : Half) :
    exec (.addi rs rt imm) s = writeOrOverflow s rt ((exactSigned 32 ((s.readW rs).toInt + imm.toInt)).map sext64) := by
  have hImm : (imm.signExtend 32).toInt = imm.toInt := BitVec.toInt_signExtend_of_le (by decide)
  rw [← hImm]; rfl

theorem exec_daddi (s : State) (rs rt : RegNum) (imm : Half) :
    exec (.daddi rs rt imm) s = writeOrOverflow s rt (exactSigned 64 ((s.readX rs).toInt + imm.toInt)) := by
  rw [← toInt_immS]; rfl

/-- Settles O32: three trapping word operations and three trapping doubleword operations. -/
theorem trappingArithmetic : Obligations.TrappingArithmetic := fun s rs rt _ imm =>
  ⟨trapping_word rfl, trapping_word (exec_addi s rs rt imm), trapping_word rfl,
    trapping_dword rfl, trapping_dword (exec_daddi s rs rt imm), trapping_dword rfl⟩

/-! ### Word results (R200) -/

/-- The doubleword is the sign extension of its low word. -/
def HoldsWord (v : Dword) : Prop := v = (low32 v).signExtend 64

theorem low32_sext64 (w : Word) : low32 (sext64 w) = w := by
  apply BitVec.eq_of_getLsbD_eq
  intro i hi
  have hi64 : i < 64 := hi.trans (by decide)
  simp only [BitVec.getLsbD_setWidth, BitVec.getLsbD_signExtend, hi, hi64, decide_true, Bool.true_and, if_true]

theorem holdsWord_sext64 (w : Word) : HoldsWord (sext64 w) := by
  rw [HoldsWord, low32_sext64]

/-- After a word is written to a register the register holds a word, register 0 its zero. -/
theorem holdsWord_readX_writeX (u : State) (rd : RegNum) (w : Word) : HoldsWord ((u.writeX rd (sext64 w)).readX rd) := by
  rw [State.readX_writeX, if_pos rfl]
  split
  · exact holdsWord_sext64 0
  · exact holdsWord_sext64 w

/-- Every state the result answers either enters an exception of `s` or holds a word in `rd`. -/
def AnswersWord (s : State) (rd : RegNum) (r : Result) : Prop :=
  ∀ t, r = .next t → (∃ e, t = s.exceptionEntry e) ∨ HoldsWord (t.readX rd)

section answers
variable {s : State} {rd : RegNum}

theorem answersWord_finish {u : State} (h : HoldsWord (u.readX rd)) : AnswersWord s rd (finish u) := by
  intro t ht
  obtain rfl := finish_next.1 ht
  exact .inr h

theorem answersWord_writeBack (u : State) (w : Word) : AnswersWord s rd (writeBack u rd (sext64 w)) :=
  answersWord_finish (holdsWord_readX_writeX u rd w)

theorem answersWord_raise (e : Exc) : AnswersWord s rd (raise s e) := fun _ ht => .inl ⟨e, raise_next.1 ht⟩

theorem answersWord_writeOrOverflow (v : Option Word) : AnswersWord s rd (writeOrOverflow s rd (v.map sext64)) := by
  cases v with
  | some w => exact answersWord_writeBack s w
  | none => exact answersWord_raise .integerOverflow

theorem answersWord_whenCop0 {k : Result} (h : AnswersWord s rd k) : AnswersWord s rd (whenCop0 s k) := fun t ht =>
  (whenCop0_next ht).elim (fun hk => h t hk.2) (fun he => .inl ⟨_, he.2⟩)

theorem answersWord_whenCop1 {k : Result} (h : AnswersWord s rd k) : AnswersWord s rd (whenCop1 s k) := fun t ht =>
  (whenCop1_next ht).elim (fun hk => h t hk.2) (fun he => .inl ⟨_, he.2⟩)

variable {ea : Word} {n : Nat} {k : Dword → State → Result}

theorem answersWord_loadAny (h : ∀ v u, AnswersWord s rd (k v u)) : AnswersWord s rd (loadAny s ea n k) := by
  intro t ht
  obtain ⟨pa, -, hk⟩ | he := loadAny_next ht
  · exact h _ _ t hk
  · exact .inl he

theorem answersWord_loadAt (h : ∀ v u, AnswersWord s rd (k v u)) : AnswersWord s rd (loadAt s ea n k) := by
  intro t ht
  obtain ⟨pa, -, hk⟩ | he := loadAt_next ht
  · exact h _ _ t hk
  · exact .inl he

/-- MFC0 writes a stored cell's word; Random, which is not stored, halts (R361). -/
theorem answersWord_mfc0 (rs : RegNum) : AnswersWord s rd (exec (.mfc0 rd rs) s) := by
  refine answersWord_whenCop0 ?_
  split
  · exact answersWord_writeBack s _
  · exact fun t ht => nomatch ht

/-- LL sets LLbit beside the register (R290). -/
theorem answersWord_ll (rs : RegNum) (imm : Half) : AnswersWord s rd (exec (.ll rs rd imm) s) :=
  answersWord_loadAt fun v u => answersWord_finish (holdsWord_readX_writeX u rd (low32 v))

/-- LWL writes the merge of the aligned word into the register's (R278). -/
theorem answersWord_lwl (rs : RegNum) (imm : Half) : AnswersWord s rd (exec (.lwl rs rd imm) s) := by
  unfold exec execLwl
  exact answersWord_loadAny fun _ u => answersWord_writeBack u _

/-- LWR writes the merge of the aligned word into the register's (R279). -/
theorem answersWord_lwr (rs : RegNum) (imm : Half) : AnswersWord s rd (exec (.lwr rs rd imm) s) := by
  unfold exec execLwr
  exact answersWord_loadAny fun _ u => answersWord_writeBack u _

end answers

/-- The instructions with a word result, each by the shape of its meaning. -/
theorem exec_answersWord (s : State) (rs rt rd : RegNum) (imm : Half) (sa : Nat) :
    ∀ i ∈ [.add rs rt rd, .addu rs rt rd, .sub rs rt rd, .subu rs rt rd, .sll rt rd sa, .srl rt rd sa, .sra rt rd sa,
      .sllv rs rt rd, .srlv rs rt rd, .srav rs rt rd, .mfc0 rd rs, .mfc1 rd rs, .cfc1 rd 0, .cfc1 rd 31,
      .addi rs rd imm, .addiu rs rd imm, .lui rd imm, .lw rs rd imm, .ll rs rd imm, .lwl rs rd imm, .lwr rs rd imm],
      AnswersWord s rd (exec i s) := by
  simp only [List.forall_mem_cons]
  exact ⟨answersWord_writeOrOverflow _, answersWord_writeBack s _, answersWord_writeOrOverflow _, answersWord_writeBack s _,
    answersWord_writeBack s _, answersWord_writeBack s _, answersWord_writeBack s _,
    answersWord_writeBack s _, answersWord_writeBack s _, answersWord_writeBack s _,
    answersWord_mfc0 rs, answersWord_whenCop1 (answersWord_writeBack s _),
    answersWord_whenCop1 (answersWord_writeBack s s.fcr0), answersWord_whenCop1 (answersWord_writeBack s s.fcr31),
    answersWord_writeOrOverflow _, answersWord_writeBack s _, answersWord_writeBack s _,
    answersWord_loadAt fun _ u => answersWord_writeBack u _, answersWord_ll rs imm,
    answersWord_lwl rs imm, answersWord_lwr rs imm, List.forall_mem_nil _⟩

/-! ### The halves of `hi` and `lo` -/

/-- The meaning completes with a sign-extended word in each of `lo` and `hi`. -/
def WritesWordPair (i : Instr) (s : State) : Prop := ∃ l h : Word, exec i s = finish (s.writeLoHi (sext64 l) (sext64 h))

theorem WritesWordPair.holdsWord {i : Instr} {s t : State} (hi : WritesWordPair i s) (h : exec i s = .next t) :
    HoldsWord t.lo ∧ HoldsWord t.hi := by
  obtain ⟨l, u, hFinish⟩ := hi
  obtain rfl := finish_next.1 (hFinish ▸ h)
  exact ⟨holdsWord_sext64 l, holdsWord_sext64 u⟩

theorem writesWordPair_div {s : State} {rt : RegNum} (hd : s.readW rt ≠ 0) (rs : RegNum) : WritesWordPair (.div rs rt) s :=
  ⟨_, _, congrArg finish (if_neg hd)⟩

theorem writesWordPair_divu {s : State} {rt : RegNum} (hd : s.readW rt ≠ 0) (rs : RegNum) : WritesWordPair (.divu rs rt) s :=
  ⟨_, _, congrArg finish (if_neg hd)⟩

theorem writesWordPair_of_mem {i : Instr} {s : State} {rs rt : RegNum}
    (hi : i ∈ [.mult rs rt, .multu rs rt] ∨ (s.readW rt ≠ 0 ∧ i ∈ [.div rs rt, .divu rs rt])) : WritesWordPair i s := by
  simp only [List.mem_cons, List.not_mem_nil, or_false] at hi
  obtain (rfl | rfl) | ⟨hd, rfl | rfl⟩ := hi
  · exact ⟨_, _, rfl⟩
  · exact ⟨_, _, rfl⟩
  · exact writesWordPair_div hd rs
  · exact writesWordPair_divu hd rs

/-- Settles O34: the registers from `exec_answersWord`, the halves from `writesWordPair_of_mem`. -/
theorem wordResultsAreSignExtended : Obligations.WordResultsAreSignExtended :=
  ⟨fun s t i rs rt rd imm sa hi h => exec_answersWord s rs rt rd imm sa i hi t h,
    fun _ _ _ _ _ hi h => (writesWordPair_of_mem hi).holdsWord h⟩

end Sys2Proof.Machine
end

section
/-! PROOF. Multiply, divide, `hi` and `lo` (41_muldiv.md): exact products, truncating divisions, and over all instructions who writes
`hi`, `lo` and fcr31. -/

namespace Sys2Proof.Machine

/-! ### Exact products (R257, R258, R261, R262) -/

/-- The signed product of two values fits twice their width. -/
theorem toInt_ofInt_toInt_mul {w : Nat} (hw : 0 < w) (x y : BitVec w) :
    (BitVec.ofInt (w + w) (x.toInt * y.toInt)).toInt = x.toInt * y.toInt := by
  have hTop : (2 : Int) ^ (w * 2 - 2) < 2 ^ (w + w - 1) := pow_lt_pow_right₀ (by decide) (by omega)
  refine BitVec.toInt_ofInt_eq_self (by omega) ?_ ?_
  · exact (neg_le_neg hTop.le).trans BitVec.le_toInt_mul_toInt
  · exact BitVec.toInt_mul_toInt_le.trans_lt hTop

/-- The unsigned product of two values fits twice their width. -/
theorem toNat_ofInt_toNat_mul {w : Nat} (x y : BitVec w) :
    (BitVec.ofInt (w + w) (x.toNat * y.toNat : Nat)).toNat = x.toNat * y.toNat := by
  have hFits : x.toNat * y.toNat < 2 ^ (w + w) := by
    rw [pow_add]
    exact Nat.mul_lt_mul'' x.isLt y.isLt
  rw [BitVec.ofInt_natCast, BitVec.toNat_ofNat, Nat.mod_eq_of_lt hFits]

section products
variable {i : Instr} {s : State} {p : Int}

/-- A word product: `hi` and `lo` hold the halves of the 64-bit product. -/
theorem writesLoHi_of_writeProduct32 (h : exec i s = finish (s.writeProduct32 p)) :
    ∃ hi lo : Word, WritesLoHi i s (sext64 lo) (sext64 hi) ∧ hi ++ lo = BitVec.ofInt (32 + 32) p :=
  ⟨_, _, writesLoHi_of_finish h, BitVec.extractLsb'_append_extractLsb'⟩

/-- A doubleword product: `hi` and `lo` hold the halves of the 128-bit product. -/
theorem writesLoHi_of_writeProduct64 (h : exec i s = finish (s.writeProduct64 p)) :
    ∃ hi lo : Dword, WritesLoHi i s lo hi ∧ hi ++ lo = BitVec.ofInt (64 + 64) p :=
  ⟨_, _, writesLoHi_of_finish h, BitVec.extractLsb'_append_extractLsb'⟩

end products

/-- Settles O35: the two halves make up the product, which fits them; the moves are one register write each. -/
theorem productsAreExactAndHiLoMove : Obligations.ProductsAreExactAndHiLoMove := by
  refine ⟨fun s rs rt => ⟨?mult, ?multu, ?dmult, ?dmultu⟩, fun s r => ⟨?mfhi, ?mflo, ?mthi, ?mtlo⟩⟩
  case mult =>
    obtain ⟨hi, lo, hWrites, hProduct⟩ := writesLoHi_of_writeProduct32 (i := .mult rs rt) (s := s) rfl
    exact ⟨hi, lo, hWrites, hProduct ▸ toInt_ofInt_toInt_mul (by decide) _ _⟩
  case multu =>
    obtain ⟨hi, lo, hWrites, hProduct⟩ := writesLoHi_of_writeProduct32 (i := .multu rs rt) (s := s) rfl
    exact ⟨hi, lo, hWrites, hProduct ▸ toNat_ofInt_toNat_mul _ _⟩
  case dmult =>
    obtain ⟨hi, lo, hWrites, hProduct⟩ := writesLoHi_of_writeProduct64 (i := .dmult rs rt) (s := s) rfl
    exact ⟨hi, lo, hWrites, hProduct ▸ toInt_ofInt_toInt_mul (by decide) _ _⟩
  case dmultu =>
    obtain ⟨hi, lo, hWrites, hProduct⟩ := writesLoHi_of_writeProduct64 (i := .dmultu rs rt) (s := s) rfl
    exact ⟨hi, lo, hWrites, hProduct ▸ toNat_ofInt_toNat_mul _ _⟩
  case mfhi => exact writesReg_of_writeBack rfl
  case mflo => exact writesReg_of_writeBack rfl
  case mthi => exact writesLoHi_of_finish rfl
  case mtlo => exact writesLoHi_of_finish rfl

/-! ### Quotient and remainder as bit vectors (R252) -/

section quotients
variable {w : Nat} (x y : BitVec w)

/-- The truncated quotient cut to the width is the machine division, the overflowing quotient included. -/
theorem ofInt_tdiv : BitVec.ofInt w (x.toInt.tdiv y.toInt) = x.sdiv y :=
  BitVec.eq_of_toInt_eq (by rw [BitVec.toInt_ofInt, BitVec.toInt_sdiv])

theorem ofInt_tmod : BitVec.ofInt w (x.toInt.tmod y.toInt) = x.srem y := by
  rw [← BitVec.toInt_srem, BitVec.ofInt_toInt]

theorem ofInt_toNat_div : BitVec.ofInt w (x.toNat / y.toNat : Nat) = x / y := by
  rw [BitVec.ofInt_natCast, ← BitVec.toNat_udiv, BitVec.ofNat_toNat, BitVec.setWidth_eq]

theorem ofInt_toNat_mod : BitVec.ofInt w (x.toNat % y.toNat : Nat) = x % y := by
  rw [BitVec.ofInt_natCast, ← BitVec.toNat_umod, BitVec.ofNat_toNat, BitVec.setWidth_eq]

/-- A remainder of a truncating division is zero or has the sign of the dividend. -/
theorem tmod_eq_zero_or_neg_iff (n d : Int) : n.tmod d = 0 ∨ (n.tmod d < 0 ↔ n < 0) := by
  by_cases hDvd : d ∣ n
  · exact .inl (Int.tmod_eq_zero_of_dvd hDvd)
  · right
    rw [← Int.sign_eq_neg_one_iff_neg, Int.sign_tmod, if_neg hDvd, Int.sign_eq_neg_one_iff_neg]

/-- Where the quotient fits, signed division truncates toward zero. -/
theorem sdiv_srem_law (hd : y.toInt ≠ 0) (hFits : ¬(x = BitVec.intMin w ∧ y = -1#w)) :
    x.toInt = (x.sdiv y).toInt * y.toInt + (x.srem y).toInt ∧ (x.srem y).toInt.natAbs < y.toInt.natAbs ∧
      ((x.srem y).toInt = 0 ∨ ((x.srem y).toInt < 0 ↔ x.toInt < 0)) := by
  rw [BitVec.toInt_sdiv_of_ne_or_ne x y (not_and_or.1 hFits), BitVec.toInt_srem]
  refine ⟨(Int.tdiv_mul_add_tmod _ _).symm, ?_, tmod_eq_zero_or_neg_iff _ _⟩
  rw [Int.natAbs_tmod]
  exact Nat.mod_lt _ (Int.natAbs_pos.2 hd)

theorem udiv_umod_law (hd : y.toNat ≠ 0) : x.toNat = (x / y).toNat * y.toNat + (x % y).toNat ∧ (x % y).toNat < y.toNat := by
  rw [BitVec.toNat_udiv, BitVec.toNat_umod]
  exact ⟨(Nat.div_add_mod' _ _).symm, Nat.mod_lt _ (Nat.pos_of_ne_zero hd)⟩

end quotients

/-! ### The divisions (R259, R260, R263, R264) -/

section divisions
variable {s : State} {rs rt : RegNum}

theorem writesLoHi_div (hd : s.readW rt ≠ 0) :
    WritesLoHi (.div rs rt) s (sext64 ((s.readW rs).sdiv (s.readW rt))) (sext64 ((s.readW rs).srem (s.readW rt))) := by
  rw [← ofInt_tdiv, ← ofInt_tmod]
  exact writesLoHi_of_finish (congrArg finish (if_neg hd))

theorem writesLoHi_divu (hd : s.readW rt ≠ 0) :
    WritesLoHi (.divu rs rt) s (sext64 (s.readW rs / s.readW rt)) (sext64 (s.readW rs % s.readW rt)) := by
  rw [← ofInt_toNat_div, ← ofInt_toNat_mod]
  exact writesLoHi_of_finish (congrArg finish (if_neg hd))

theorem writesLoHi_ddiv (hd : s.readX rt ≠ 0) :
    WritesLoHi (.ddiv rs rt) s ((s.readX rs).sdiv (s.readX rt)) ((s.readX rs).srem (s.readX rt)) := by
  rw [← ofInt_tdiv, ← ofInt_tmod]
  exact writesLoHi_of_finish (congrArg finish (if_neg hd))

theorem writesLoHi_ddivu (hd : s.readX rt ≠ 0) :
    WritesLoHi (.ddivu rs rt) s (s.readX rs / s.readX rt) (s.readX rs % s.readX rt) := by
  rw [← ofInt_toNat_div, ← ofInt_toNat_mod]
  exact writesLoHi_of_finish (congrArg finish (if_neg hd))

end divisions

theorem ne_zero_of_toInt_ne_zero {w : Nat} {y : BitVec w} (h : y.toInt ≠ 0) : y ≠ 0 := by
  rintro rfl
  exact h BitVec.toInt_zero

theorem ne_zero_of_toNat_ne_zero {w : Nat} {y : BitVec w} (h : y.toNat ≠ 0) : y ≠ 0 := by
  rintro rfl
  exact h BitVec.toNat_zero

/-- Settles O36: each division writes the quotient and remainder of bit vectors, which obey the division law; the overflowing quotient
is evaluated. -/
theorem divisionsTruncate : Obligations.DivisionsTruncate := by
  intro s rs rt
  refine ⟨?div, ?divu, ?ddiv, ?ddivu, ?wraps32, ?wraps64⟩
  case div =>
    intro n d hd hFits
    refine ⟨_, _, writesLoHi_div (ne_zero_of_toInt_ne_zero hd), sdiv_srem_law _ _ hd ?_⟩
    exact fun ⟨hx, hy⟩ => hFits ⟨congrArg BitVec.toInt hx, congrArg BitVec.toInt hy⟩
  case divu =>
    intro n d hd
    exact ⟨_, _, writesLoHi_divu (ne_zero_of_toNat_ne_zero hd), udiv_umod_law _ _ hd⟩
  case ddiv =>
    intro n d hd hFits
    refine ⟨_, _, writesLoHi_ddiv (ne_zero_of_toInt_ne_zero hd), sdiv_srem_law _ _ hd ?_⟩
    exact fun ⟨hx, hy⟩ => hFits ⟨congrArg BitVec.toInt hx, congrArg BitVec.toInt hy⟩
  case ddivu =>
    intro n d hd
    exact ⟨_, _, writesLoHi_ddivu (ne_zero_of_toNat_ne_zero hd), udiv_umod_law _ _ hd⟩
  case wraps32 =>
    intro hx hy
    have hWrites := writesLoHi_div (s := s) (rs := rs) (rt := rt) (by rw [hy]; decide)
    rwa [hx, hy] at hWrites
  case wraps64 =>
    intro hx hy
    have hWrites := writesLoHi_ddiv (s := s) (rs := rs) (rt := rt) (by rw [hy]; decide)
    rwa [hx, hy] at hWrites

/-- Settles O37: each division tests its divisor and completes with the configuration's pair (R251). -/
theorem divisionByZeroCompletes : Obligations.DivisionByZeroCompletes := by
  intro s rs rt
  refine ⟨fun hd => ⟨?div, ?divu⟩, fun hd => ⟨?ddiv, ?ddivu⟩⟩
  all_goals exact writesLoHi_of_finish (congrArg finish (if_pos hd))

/-! ### Who writes `hi`, `lo` and fcr31 (R250, R61, R423) -/

/-- The ten instructions of R250. -/
theorem mem_of_writesHiLo {i : Instr} (h : writesHiLo i = true) :
    ∃ rs rt, i ∈ [.mult rs rt, .multu rs rt, .div rs rt, .divu rs rt, .dmult rs rt, .dmultu rs rt, .ddiv rs rt,
      .ddivu rs rt, .mthi rs, .mtlo rs] := by
  cases i with
  | mult rs rt | multu rs rt | div rs rt | divu rs rt | dmult rs rt | dmultu rs rt | ddiv rs rt | ddivu rs rt =>
    exact ⟨rs, rt, by simp⟩
  | mthi rs | mtlo rs => exact ⟨rs, 0, by simp⟩
  | _ => cases h

/-- The thirty-two compares are the sixteen conditions of R454 in two formats. -/
theorem eq_compare_of_isCompare {i : Instr} (h : isCompare i = true) :
    ∃ cond fs ft, i = compareSingle cond fs ft ∨ i = compareDouble cond fs ft := by
  cases i with
  | cFS ft fs => exact ⟨0, fs, ft, .inl rfl⟩
  | cUnS ft fs => exact ⟨1, fs, ft, .inl rfl⟩
  | cEqS ft fs => exact ⟨2, fs, ft, .inl rfl⟩
  | cUeqS ft fs => exact ⟨3, fs, ft, .inl rfl⟩
  | cOltS ft fs => exact ⟨4, fs, ft, .inl rfl⟩
  | cUltS ft fs => exact ⟨5, fs, ft, .inl rfl⟩
  | cOleS ft fs => exact ⟨6, fs, ft, .inl rfl⟩
  | cUleS ft fs => exact ⟨7, fs, ft, .inl rfl⟩
  | cSfS ft fs => exact ⟨8, fs, ft, .inl rfl⟩
  | cNgleS ft fs => exact ⟨9, fs, ft, .inl rfl⟩
  | cSeqS ft fs => exact ⟨10, fs, ft, .inl rfl⟩
  | cNglS ft fs => exact ⟨11, fs, ft, .inl rfl⟩
  | cLtS ft fs => exact ⟨12, fs, ft, .inl rfl⟩
  | cNgeS ft fs => exact ⟨13, fs, ft, .inl rfl⟩
  | cLeS ft fs => exact ⟨14, fs, ft, .inl rfl⟩
  | cNgtS ft fs => exact ⟨15, fs, ft, .inl rfl⟩
  | cFD ft fs => exact ⟨0, fs, ft, .inr rfl⟩
  | cUnD ft fs => exact ⟨1, fs, ft, .inr rfl⟩
  | cEqD ft fs => exact ⟨2, fs, ft, .inr rfl⟩
  | cUeqD ft fs => exact ⟨3, fs, ft, .inr rfl⟩
  | cOltD ft fs => exact ⟨4, fs, ft, .inr rfl⟩
  | cUltD ft fs => exact ⟨5, fs, ft, .inr rfl⟩
  | cOleD ft fs => exact ⟨6, fs, ft, .inr rfl⟩
  | cUleD ft fs => exact ⟨7, fs, ft, .inr rfl⟩
  | cSfD ft fs => exact ⟨8, fs, ft, .inr rfl⟩
  | cNgleD ft fs => exact ⟨9, fs, ft, .inr rfl⟩
  | cSeqD ft fs => exact ⟨10, fs, ft, .inr rfl⟩
  | cNglD ft fs => exact ⟨11, fs, ft, .inr rfl⟩
  | cLtD ft fs => exact ⟨12, fs, ft, .inr rfl⟩
  | cNgeD ft fs => exact ⟨13, fs, ft, .inr rfl⟩
  | cLeD ft fs => exact ⟨14, fs, ft, .inr rfl⟩
  | cNgtD ft fs => exact ⟨15, fs, ft, .inr rfl⟩
  | _ => cases h

/-- What an instruction does to `hi` and `lo`: nothing, unless it is one of the ten. -/
theorem exec_sameHiLo_or_writesHiLo {i : Instr} {s t : State} (h : exec i s = .next t) :
    SameHiLo s t ∨ writesHiLo i = true := by
  cases exec_effect h with
  | hiLo l h hi => exact .inr hi
  | _ => exact .inl ⟨by simp, by simp⟩

/-- What an instruction does to fcr31: nothing, unless it is CTC1, or a compare, which writes bit C. -/
theorem exec_fcr31 {i : Instr} {s t : State} (h : exec i s = .next t) :
    t.fcr31 = s.fcr31 ∨ (∃ rt, i = .ctc1 rt 31) ∨
      (isCompare i = true ∧ ∀ k, k ≠ 23 → t.fcr31.getLsbD k = s.fcr31.getLsbD k) := by
  cases exec_effect h with
  | condition c hi => exact .inr (.inr ⟨hi, (s.writeCondition_bits c).2⟩)
  | control v hi => exact .inr (.inl hi)
  | _ => exact .inl (by simp)

/-- Settles O38: `hi` and `lo` by `exec_sameHiLo_or_writesHiLo`, fcr31 by `exec_fcr31`. -/
theorem onlyTheirWritersChangeHiLoAndFcr31 : Obligations.OnlyTheirWritersChangeHiLoAndFcr31 := by
  refine ⟨fun i s t h hChanged => ?hiLo, fun i s t h hChanged => ?fcr31⟩
  case hiLo =>
    obtain ⟨hHi, hLo⟩ | hi := exec_sameHiLo_or_writesHiLo h
    · exact absurd hChanged (by simp [hHi, hLo])
    · exact mem_of_writesHiLo hi
  case fcr31 =>
    obtain hSame | hControl | ⟨hi, hBits⟩ := exec_fcr31 h
    · exact absurd hSame hChanged
    · exact .inl hControl
    · exact .inr ⟨eq_compare_of_isCompare hi, hBits⟩

end Sys2Proof.Machine
end

section
/-! PROOF. Loads and stores (42_loadstore.md): the value of big-endian bytes, the merges of the unaligned loads byte by byte, and
what each load, store, load-linked and store-conditional does once its address is aligned and translates. -/

namespace Sys2Proof.Machine

/-! ### The value of big-endian bytes (R82), and parts of a widened value -/

theorem assembleBytes_one (byte : Nat → Byte) : assembleBytes byte 1 = (byte 0).setWidth 64 := by
  simp [assembleBytes]

/-- One more byte goes below the bytes assembled so far. -/
theorem assembleBytes_succ {byte : Nat → Byte} {n w : Nat} {x : BitVec w}
    (hx : assembleBytes byte n = x.setWidth 64) : assembleBytes byte (n + 1) = (x ++ byte n).setWidth 64 := by
  rw [assembleBytes, hx]
  apply BitVec.eq_of_getLsbD_eq
  intro i hi
  simp only [BitVec.getLsbD_or, BitVec.getLsbD_shiftLeft, BitVec.getLsbD_setWidth, BitVec.getLsbD_append]
  by_cases hLow : i < 8
  · simp [hi, hLow]
  · have hByte : (byte n).getLsbD i = false := BitVec.getLsbD_of_ge _ _ (by omega)
    have hBelow : i - 8 < 64 := by omega
    simp [hi, hLow, hByte, hBelow]

theorem assembleBytes_two (byte : Nat → Byte) : assembleBytes byte 2 = (byte 0 ++ byte 1).setWidth 64 :=
  assembleBytes_succ (assembleBytes_one byte)

theorem assembleBytes_four (byte : Nat → Byte) :
    assembleBytes byte 4 = (byte 0 ++ byte 1 ++ byte 2 ++ byte 3).setWidth 64 :=
  assembleBytes_succ (assembleBytes_succ (assembleBytes_two byte))

theorem assembleBytes_eight (byte : Nat → Byte) :
    assembleBytes byte 8 = byte 0 ++ byte 1 ++ byte 2 ++ byte 3 ++ byte 4 ++ byte 5 ++ byte 6 ++ byte 7 := by
  have hSeven := assembleBytes_succ (assembleBytes_succ (assembleBytes_succ (assembleBytes_four byte)))
  rw [assembleBytes_succ hSeven]
  exact BitVec.setWidth_eq _

/-- The low word of a shifted zero-extended word is the shifted word. -/
theorem extractLsb'_zext64_ushiftRight (x : Word) (n : Nat) : (zext64 x >>> n).extractLsb' 0 32 = x >>> n := by
  rw [← BitVec.setWidth_ushiftRight (by decide), BitVec.extractLsb'_setWidth_of_le (by decide), BitVec.extractLsb'_eq_self]

/-- Byte `k` of assembled bytes, 0 the most significant, is the byte assembled at `k`. -/
theorem extractLsb'_assembleBytes (byte : Nat → Byte) {n k : Nat} (hn : n ≤ 8) (hk : k < n) :
    (assembleBytes byte n).extractLsb' (8 * (n - 1 - k)) 8 = byte k := by
  induction n with
  | zero => omega
  | succ n ih =>
    apply BitVec.eq_of_getLsbD_eq
    intro i hi
    simp only [assembleBytes, BitVec.getLsbD_extractLsb', BitVec.getLsbD_or, BitVec.getLsbD_shiftLeft,
      BitVec.getLsbD_setWidth, hi, decide_true, Bool.true_and]
    obtain rfl | hLess := Nat.eq_or_lt_of_le (Nat.le_of_lt_succ hk)
    · have hFits : i < 64 := by omega
      simp [hi, hFits]
    · have hBit := congrArg (·.getLsbD i) (ih (by omega) hLess)
      simp only [BitVec.getLsbD_extractLsb', hi, decide_true, Bool.true_and] at hBit
      have hOffset : 8 * (n - k) + i = 8 * (n - 1 - k) + i + 8 := by omega
      have hFits : 8 * (n - 1 - k) + i + 8 < 64 := by omega
      simp [hOffset, hFits, hBit]

/-! ### The merges of the unaligned loads, byte by byte (R278 to R281) -/

section merges
variable {w : Nat} (mem old : BitVec w) {j m : Nat}

/-- The left merge under a shift of `b` bytes: byte `j`, 0 the least significant, is read from `b` bytes below, or stays. -/
theorem extractLsb'_mergeLeft (b : Nat) (hw : w = 8 * m) (hj : j < m) :
    ((mem <<< (8 * b)) ||| (old &&& ~~~(BitVec.allOnes w <<< (8 * b)))).extractLsb' (8 * j) 8 =
      if b ≤ j then mem.extractLsb' (8 * (j - b)) 8 else old.extractLsb' (8 * j) 8 := by
  apply BitVec.eq_of_getLsbD_eq
  intro i hi
  have hFits : 8 * j + i < w := by omega
  split
  · have hShifted : ¬8 * j + i < 8 * b := by omega
    have hSource : 8 * j + i - 8 * b = 8 * (j - b) + i := by omega
    have hSourceFits : 8 * (j - b) + i < w := by omega
    simp [hi, hFits, hShifted, hSource, hSourceFits]
  · have hKept : 8 * j + i < 8 * b := by omega
    simp [hi, hFits, hKept]

/-- The right merge under a shift of `c` bytes: byte `j`, 0 the least significant, is read from `c` bytes above, or stays. -/
theorem extractLsb'_mergeRight (c : Nat) (hw : w = 8 * m) (hj : j < m) :
    ((mem >>> (8 * c)) ||| (old &&& ~~~(BitVec.allOnes w >>> (8 * c)))).extractLsb' (8 * j) 8 =
      if j + c < m then mem.extractLsb' (8 * (j + c)) 8 else old.extractLsb' (8 * j) 8 := by
  apply BitVec.eq_of_getLsbD_eq
  intro i hi
  have hFits : 8 * j + i < w := by omega
  have hSource : 8 * c + (8 * j + i) = 8 * (j + c) + i := by omega
  split
  · have hSourceFits : 8 * (j + c) + i < w := by omega
    simp [hi, hFits, hSource, hSourceFits]
  · have hBeyond : ¬8 * (j + c) + i < w := by omega
    have hNoBit : mem.getLsbD (8 * (j + c) + i) = false := BitVec.getLsbD_of_ge _ _ (by omega)
    simp [hi, hFits, hSource, hBeyond, hNoBit]

end merges

section mergedBytes
variable (byte : Nat → Byte) {b k : Nat}

theorem extractLsb'_mergeLeft32 (old : Word) (hk : k < 4) :
    (mergeLeft32 b (low32 (assembleBytes byte 4)) old).extractLsb' (8 * (3 - k)) 8 =
      if k + b < 4 then byte (b + k) else old.extractLsb' (8 * (3 - k)) 8 := by
  refine (extractLsb'_mergeLeft _ old b (m := 4) rfl (by omega)).trans ?_
  by_cases hRead : k + b < 4
  · rw [if_pos (by omega), if_pos hRead, BitVec.extractLsb'_setWidth_of_le (by omega), show 3 - k - b = 4 - 1 - (b + k) by omega,
      extractLsb'_assembleBytes byte (by decide) (by omega)]
  · rw [if_neg (by omega), if_neg hRead]

theorem extractLsb'_mergeRight32 (old : Word) (hb : b < 4) (hk : k < 4) :
    (mergeRight32 b (low32 (assembleBytes byte 4)) old).extractLsb' (8 * (3 - k)) 8 =
      if 3 ≤ k + b then byte (k + b - 3) else old.extractLsb' (8 * (3 - k)) 8 := by
  refine (extractLsb'_mergeRight _ old (3 - b) (m := 4) rfl (by omega)).trans ?_
  by_cases hRead : 3 ≤ k + b
  · rw [if_pos (by omega), if_pos hRead, BitVec.extractLsb'_setWidth_of_le (by omega),
      show 3 - k + (3 - b) = 4 - 1 - (k + b - 3) by omega, extractLsb'_assembleBytes byte (by decide) (by omega)]
  · rw [if_neg (by omega), if_neg hRead]

theorem extractLsb'_mergeLeft64 (old : Dword) (hk : k < 8) :
    (mergeLeft64 b (assembleBytes byte 8) old).extractLsb' (8 * (7 - k)) 8 =
      if k + b < 8 then byte (b + k) else old.extractLsb' (8 * (7 - k)) 8 := by
  refine (extractLsb'_mergeLeft _ old b (m := 8) rfl (by omega)).trans ?_
  by_cases hRead : k + b < 8
  · rw [if_pos (by omega), if_pos hRead, show 7 - k - b = 8 - 1 - (b + k) by omega,
      extractLsb'_assembleBytes byte (by decide) (by omega)]
  · rw [if_neg (by omega), if_neg hRead]

theorem extractLsb'_mergeRight64 (old : Dword) (hb : b < 8) (hk : k < 8) :
    (mergeRight64 b (assembleBytes byte 8) old).extractLsb' (8 * (7 - k)) 8 =
      if 7 ≤ k + b then byte (k + b - 7) else old.extractLsb' (8 * (7 - k)) 8 := by
  refine (extractLsb'_mergeRight _ old (7 - b) (m := 8) rfl (by omega)).trans ?_
  by_cases hRead : 7 ≤ k + b
  · rw [if_pos (by omega), if_pos hRead, show 7 - k + (7 - b) = 8 - 1 - (k + b - 7) by omega,
      extractLsb'_assembleBytes byte (by decide) (by omega)]
  · rw [if_neg (by omega), if_neg hRead]

end mergedBytes

/-! ### The shapes of the loads and stores, once the address is aligned and translates -/

theorem alignedTo_eq_true {n : Nat} {ea : Word} (h : ea.toNat % n = 0) : alignedTo n ea = true := by
  simpa [alignedTo] using h

section shapes
variable {i : Instr} {s : State} {ea pa : Word} {n : Nat} {r : RegNum}

theorem loadsReg_of_loadAt {f : Dword → Dword} {v : Dword}
    (hi : exec i s = loadAt s ea n fun x u => writeBack u r (f x)) (ha : ea.toNat % n = 0)
    (hp : s.translate .load ea = .ok pa) (hv : f (s.physRead pa n) = v) : LoadsReg i s pa n r v := by
  subst hv
  exact loadsReg_of_writeBack (hi.trans (loadAt_ok (alignedTo_eq_true ha) hp _))

theorem stores_of_storeAt {v : Dword} (hi : exec i s = storeAt s ea n v finish) (ha : ea.toNat % n = 0)
    (hp : s.translate .store ea = .ok pa) : Stores i s pa n v :=
  stores_of_finish (hi.trans (storeAt_ok (alignedTo_eq_true ha) hp finish))

theorem storeAny_ok (hp : s.translate .store ea = .ok pa) (v : Dword) : storeAny s ea n v = finish (s.physWrite pa n v) := by
  rw [storeAny, State.memWrite_ok hp]
  rfl

theorem stores_of_storeAny {v : Dword} (hi : exec i s = storeAny s ea n v) (hp : s.translate .store ea = .ok pa) :
    Stores i s pa n v :=
  stores_of_finish (hi.trans (storeAny_ok hp v))

end shapes

/-! ### The unaligned loads as merges (R278 to R281) -/

section unaligned
variable {s : State} {b r : RegNum} {imm : Half} {pa : Word}

theorem loadsReg_lwl (hp : s.translate .load (wordBase (s.effAddr b imm)) = .ok pa) :
    LoadsReg (.lwl b r imm) s pa 4 r
      (sext64 (mergeLeft32 (inWord (s.effAddr b imm)) (low32 (s.physRead pa 4)) (s.readW r))) :=
  loadsReg_of_writeBack (by rw [exec, execLwl, loadAny_ok hp])

theorem loadsReg_lwr (hp : s.translate .load (wordBase (s.effAddr b imm)) = .ok pa) :
    LoadsReg (.lwr b r imm) s pa 4 r
      (sext64 (mergeRight32 (inWord (s.effAddr b imm)) (low32 (s.physRead pa 4)) (s.readW r))) :=
  loadsReg_of_writeBack (by rw [exec, execLwr, loadAny_ok hp])

theorem loadsReg_ldl (hp : s.translate .load (dwordBase (s.effAddr b imm)) = .ok pa) :
    LoadsReg (.ldl b r imm) s pa 8 r
      (mergeLeft64 (inDword (s.effAddr b imm)) (s.physRead pa 8) (s.readX r)) :=
  loadsReg_of_writeBack (by rw [exec, execLdl, loadAny_ok hp])

theorem loadsReg_ldr (hp : s.translate .load (dwordBase (s.effAddr b imm)) = .ok pa) :
    LoadsReg (.ldr b r imm) s pa 8 r
      (mergeRight64 (inDword (s.effAddr b imm)) (s.physRead pa 8) (s.readX r)) :=
  loadsReg_of_writeBack (by rw [exec, execLdr, loadAny_ok hp])

end unaligned

/-! ### Load linked and store conditional (R290 to R293) -/

/-- Over `u` the instruction writes `v` to `rd` and `l` to LLbit, and nothing else, memory included; execution is sequential. -/
structure WroteWithLink (rd : RegNum) (v : Dword) (l : Bool) (u t : State) : Prop where
  wrote : Wrote rd v t
  llbit : t.llbit = l
  regs : SameRegsBut rd u t
  hiLo : SameHiLo u t
  system : SameSystem u t
  fpu : SameFpu u t
  hidden : SameHidden u t
  mem : t.mem = u.mem
  sequential : Sequential u t

/-- How LL, LLD and a successful SC or SCD end. -/
theorem wroteWithLink_advance (u : State) (rd : RegNum) (v : Dword) (l : Bool) :
    WroteWithLink rd v l u ({ u.writeX rd v with llbit := l } : State).advance where
  wrote := (State.readX_congr rfl rd).trans ((State.readX_writeX u rd rd v).trans (if_pos rfl))
  llbit := rfl
  regs := fun r hr => (State.readX_congr rfl r).trans ((State.readX_writeX u rd r v).trans (if_neg hr))
  hiLo := ⟨u.writeX_hi rd v, u.writeX_lo rd v⟩
  system := ⟨u.writeX_cp0 rd v, u.writeX_tlb rd v⟩
  fpu := ⟨State.readFgr_congr (u.writeX_fgr rd v), u.writeX_fcr0 rd v, u.writeX_fcr31 rd v⟩
  hidden := ⟨u.writeX_stop rd v, u.writeX_time rd v, u.writeX_queue rd v, u.writeX_notRam rd v, u.writeX_port rd v,
    u.writeX_freeCount rd v⟩
  mem := u.writeX_mem rd v
  sequential := ⟨u.writeX_npc rd v, congrArg (· + 4) (u.writeX_npc rd v), rfl⟩

section linked
variable {i : Instr} {s : State} {ea pa : Word} {n : Nat} {r : RegNum}

/-- A load that sets LLbit writes over the state after the read (R290, R291). -/
theorem wroteWithLink_of_loadAt {f : Dword → Dword} {v : Dword}
    (hi : exec i s = loadAt s ea n fun x u => finish { u.writeX r (f x) with llbit := true }) (ha : ea.toNat % n = 0)
    (hp : s.translate .load ea = .ok pa) (hv : f (s.physRead pa n) = v) :
    ∃ t, exec i s = .next t ∧ WroteWithLink r v true (s.afterRead pa n) t := by
  subst hv
  exact ⟨_, hi.trans (loadAt_ok (alignedTo_eq_true ha) hp _), wroteWithLink_advance _ r _ true⟩

/-- With LLbit = 1 the store is made, and 1 is written over the state after it (R292, R293). -/
theorem wroteWithLink_of_storeConditional (hi : exec i s = storeConditional s r ea n) (ha : ea.toNat % n = 0)
    (hl : s.llbit = true) (hp : s.translate .store ea = .ok pa) :
    ∃ t, exec i s = .next t ∧ WroteWithLink r 1 false (s.physWrite pa n (s.readX r)) t := by
  refine ⟨_, ?_, wroteWithLink_advance _ r 1 false⟩
  rw [hi, storeConditional, whenAligned_aligned (alignedTo_eq_true ha), if_pos hl, State.memWrite_ok hp]
  rfl

/-- With LLbit = 0 nothing but the register is written, whatever translation would answer (R292, R293). -/
theorem writesReg_of_storeConditional (hi : exec i s = storeConditional s r ea n) (ha : ea.toNat % n = 0)
    (hl : s.llbit = false) : WritesReg i s r 0 := by
  refine writesReg_of_writeBack (hi.trans ?_)
  rw [storeConditional, whenAligned_aligned (alignedTo_eq_true ha), if_neg (by simp [hl])]

end linked

/-! ### The obligations -/

/-- Settles O25: each load by `loadsReg_of_loadAt`, its value by the bytes assembled. -/
theorem alignedLoadsReadBigEndian : Obligations.AlignedLoadsReadBigEndian := by
  intro s b r imm pa hp ea m
  refine ⟨fun n k hRam => if_pos hRam, fun n hRam => s.afterRead_ram pa n ((s.allRam_iff pa.toNat n).2 hRam),
    ?lb, ?lbu, fun ha => ⟨?lh, ?lhu⟩, fun ha => ⟨?lw, ?lwu⟩, fun ha => ?ld⟩
  case lb =>
    refine loadsReg_of_loadAt rfl (Nat.mod_one _) hp ?_
    rw [State.physRead, assembleBytes_one, BitVec.setWidth_setWidth_of_le _ (by decide), BitVec.setWidth_eq]
  case lbu => exact loadsReg_of_loadAt rfl (Nat.mod_one _) hp (assembleBytes_one _)
  case lh =>
    refine loadsReg_of_loadAt rfl ha hp ?_
    rw [State.physRead, assembleBytes_two, BitVec.setWidth_setWidth_of_le _ (by decide), BitVec.setWidth_eq]
  case lhu => exact loadsReg_of_loadAt rfl ha hp (assembleBytes_two _)
  case lw => exact loadsReg_of_loadAt rfl ha hp (congrArg sext64 (low32_assembleBytes _))
  case lwu => exact loadsReg_of_loadAt rfl ha hp (assembleBytes_four _)
  case ld => exact loadsReg_of_loadAt rfl ha hp (assembleBytes_eight _)

/-- Settles O26: each load as its merge, and the bytes of the merge. -/
theorem unalignedLoadsMerge : Obligations.UnalignedLoadsMerge := by
  refine ⟨fun s b r imm pa hp => ⟨?lwl, ?lwr⟩, fun s b r imm pa hp => ⟨?ldl, ?ldr⟩⟩
  case lwl => exact ⟨_, loadsReg_lwl hp, fun k hk => extractLsb'_mergeLeft32 _ _ hk⟩
  case lwr => exact ⟨_, loadsReg_lwr hp, fun k hk => extractLsb'_mergeRight32 _ _ (BitVec.isLt _) hk⟩
  case ldl => exact ⟨_, loadsReg_ldl hp, fun k hk => extractLsb'_mergeLeft64 _ _ hk⟩
  case ldr => exact ⟨_, loadsReg_ldr hp, fun k hk => extractLsb'_mergeRight64 _ _ (BitVec.isLt _) hk⟩

/-- Settles O27: each store by `stores_of_storeAt`. -/
theorem alignedStoresWriteBigEndian : Obligations.AlignedStoresWriteBigEndian := fun _ _ _ _ _ hp =>
  ⟨stores_of_storeAt rfl (Nat.mod_one _) hp, fun ha => stores_of_storeAt rfl ha hp, fun ha => stores_of_storeAt rfl ha hp,
    fun ha => stores_of_storeAt rfl ha hp⟩

/-- Settles O28: each store by `stores_of_storeAny`. -/
theorem unalignedStoresWriteTheirPart : Obligations.UnalignedStoresWriteTheirPart := fun _ _ _ _ _ =>
  ⟨fun hp => ⟨⟨_, stores_of_storeAny rfl hp, extractLsb'_zext64_ushiftRight _ _⟩, stores_of_storeAny rfl hp⟩,
    fun hp => stores_of_storeAny rfl hp, fun hp => stores_of_storeAny rfl hp⟩

/-- Settles O29: the loads by `wroteWithLink_of_loadAt`, the stores by the two outcomes of `storeConditional`. -/
theorem loadLinkedAndStoreConditional : Obligations.LoadLinkedAndStoreConditional := by
  refine ⟨?loads, ?stores⟩
  case loads =>
    intro s b r imm pa hp ea m links
    have hLinks {i : Instr} {n : Nat} {v : Dword}
        (h : ∃ t, exec i s = .next t ∧ WroteWithLink r v true (s.afterRead pa n) t) : links i n v := by
      obtain ⟨t, hNext, h⟩ := h
      exact ⟨t, hNext, h.wrote, h.llbit, h.regs, h.hiLo, h.system, h.fpu, h.hidden, fun a => congrArg (·.readByte a) h.mem,
        h.sequential⟩
    exact ⟨fun ha => hLinks (wroteWithLink_of_loadAt rfl ha hp (congrArg sext64 (low32_assembleBytes _))),
      fun ha => hLinks (wroteWithLink_of_loadAt rfl ha hp (assembleBytes_eight _))⟩
  case stores =>
    intro s b r imm ea succeeds
    have hSucceeds {i : Instr} {pa : Word} {n : Nat}
        (h : ∃ t, exec i s = .next t ∧ WroteWithLink r 1 false (s.physWrite pa n (s.readX r)) t) : succeeds i pa n := by
      obtain ⟨t, hNext, h⟩ := h
      refine ⟨t, hNext, fun k hk => ?_, fun a ha => ?_, h.wrote, h.llbit, h.regs, h.hiLo, h.system, h.fpu, h.hidden,
        h.sequential⟩
      · rw [h.mem]
        exact s.holdsBytes_physWrite pa n (s.readX r) k hk
      · rw [h.mem]
        exact s.sameMemoryOutside_physWrite pa n (s.readX r) a ha
    exact ⟨fun ha hl pa hp => hSucceeds (wroteWithLink_of_storeConditional rfl ha hl hp),
      fun ha hl pa hp => hSucceeds (wroteWithLink_of_storeConditional rfl ha hl hp),
      writesReg_of_storeConditional rfl, writesReg_of_storeConditional rfl⟩

end Sys2Proof.Machine
end

section
/-! PROOF. Jumps and conditional branches (43_branch_jump.md): the target of a branch, and the two outcomes of a
conditional branch in its plain and its likely form, with and without a link. -/

namespace Sys2Proof.Machine

/-! ### The branch target (R144) -/

/-- An offset widened with its two low zeros is the widened offset times four. -/
theorem signExtend_append_zeros (imm : Half) : (imm ++ 0#2).signExtend 32 = imm.signExtend 32 <<< 2 := by
  apply BitVec.eq_of_getLsbD_eq
  intro k hk
  rw [BitVec.getLsbD_signExtend, BitVec.getLsbD_shiftLeft, BitVec.getLsbD_signExtend, BitVec.getLsbD_append, BitVec.msb_append]
  by_cases hLow : k < 2
  · have hField : k < 18 := by omega
    simp [hLow, hField]
  · have hShifted : k - 2 < 32 := by omega
    by_cases hField : k < 18
    · have hOffset : k - 2 < 16 := by omega
      simp [hk, hLow, hField, hOffset, hShifted]
    · have hSign : ¬k - 2 < 16 := by omega
      simp [hk, hLow, hField, hSign, hShifted]

theorem State.branchTarget_eq (s : State) (imm : Half) : s.branchTarget imm = s.pc + 4 + (imm.signExtend 32 <<< 2) :=
  congrArg (s.pc + 4 + ·) (signExtend_append_zeros imm)

/-! ### Jumps, and branches taken (R311) -/

section taken
variable {i : Instr} {s : State} {t : Word}

theorem transfers_of_branchTo (h : exec i s = .next (s.branchTo t)) : Transfers i s s.npc t true :=
  transfers_of_next h rfl

/-- The link's write leaves `npc`, the delay slot's address. -/
theorem transfersLinking_of_branchTo {rd : RegNum} {v : Dword} (h : exec i s = .next ((s.writeX rd v).branchTo t)) :
    TransfersLinking i s rd v s.npc t true := by
  simpa using transfersLinking_of_next h rfl

end taken

/-! ### The two outcomes of a conditional branch -/

section outcomes
variable {i : Instr} {s u : State} {b : Bool} {c : Prop}

/-- R311 when the condition holds, R312 when it fails. -/
theorem outcomes_of_branchIf {t : Word} (h : exec i s = branchIf u b t) (hb : b = true ↔ c) :
    (c → exec i s = .next (u.branchTo t)) ∧ (¬c → exec i s = .next u.noBranch) :=
  ⟨fun hc => h.trans (congrArg Host.Outcome.next (if_pos (hb.2 hc))),
    fun hc => h.trans (congrArg Host.Outcome.next (if_neg (mt hb.1 hc)))⟩

/-- R311 when the condition holds, R313 when it fails. -/
theorem outcomes_of_branchLikelyIf {t : Word} (h : exec i s = branchLikelyIf u b t) (hb : b = true ↔ c) :
    (c → exec i s = .next (u.branchTo t)) ∧ (¬c → exec i s = .next u.nullify) :=
  ⟨fun hc => h.trans (congrArg Host.Outcome.next (if_pos (hb.2 hc))),
    fun hc => h.trans (congrArg Host.Outcome.next (if_neg (mt hb.1 hc)))⟩

variable {imm : Half}

theorem transfers_of_branchIf (h : exec i s = branchIf s b (s.branchTarget imm)) (hb : b = true ↔ c) :
    (c → Transfers i s s.npc (s.pc + 4 + (imm.signExtend 32 <<< 2)) true) ∧ (¬c → Transfers i s s.npc (s.npc + 4) true) := by
  obtain ⟨hTaken, hNot⟩ := outcomes_of_branchIf (s.branchTarget_eq imm ▸ h) hb
  exact ⟨fun hc => transfers_of_branchTo (hTaken hc), fun hc => transfers_of_next (hNot hc) rfl⟩

theorem transfers_of_branchLikelyIf (h : exec i s = branchLikelyIf s b (s.branchTarget imm)) (hb : b = true ↔ c) :
    (c → Transfers i s s.npc (s.pc + 4 + (imm.signExtend 32 <<< 2)) true) ∧
      (¬c → Transfers i s (s.npc + 4) (s.npc + 8) false) := by
  obtain ⟨hTaken, hNot⟩ := outcomes_of_branchLikelyIf (s.branchTarget_eq imm ▸ h) hb
  exact ⟨fun hc => transfers_of_branchTo (hTaken hc), fun hc => transfers_of_next (hNot hc) rfl⟩

variable {rd : RegNum} {v : Dword}

/-- The link is written before the branch decides, so both outcomes hold it. -/
theorem transfersLinking_of_branchIf (h : exec i s = branchIf (s.writeX rd v) b (s.branchTarget imm)) (hb : b = true ↔ c) :
    (c → TransfersLinking i s rd v s.npc (s.pc + 4 + (imm.signExtend 32 <<< 2)) true) ∧
      (¬c → TransfersLinking i s rd v s.npc (s.npc + 4) true) := by
  obtain ⟨hTaken, hNot⟩ := outcomes_of_branchIf (s.branchTarget_eq imm ▸ h) hb
  exact ⟨fun hc => transfersLinking_of_branchTo (hTaken hc), fun hc => by simpa using transfersLinking_of_next (hNot hc) rfl⟩

/-- The nullified form writes the link too (R332, R333). -/
theorem transfersLinking_of_branchLikelyIf (h : exec i s = branchLikelyIf (s.writeX rd v) b (s.branchTarget imm))
    (hb : b = true ↔ c) :
    (c → TransfersLinking i s rd v s.npc (s.pc + 4 + (imm.signExtend 32 <<< 2)) true) ∧
      (¬c → TransfersLinking i s rd v (s.npc + 4) (s.npc + 8) false) := by
  obtain ⟨hTaken, hNot⟩ := outcomes_of_branchLikelyIf (s.branchTarget_eq imm ▸ h) hb
  exact ⟨fun hc => transfersLinking_of_branchTo (hTaken hc), fun hc => by simpa using transfersLinking_of_next (hNot hc) rfl⟩

end outcomes

/-! ### The conditions -/

section conditions
variable (x : Dword)

theorem isNegative_iff : isNegative x = true ↔ x.toInt < 0 := decide_eq_true_iff

theorem isPositive_iff : isPositive x = true ↔ 0 < x.toInt := decide_eq_true_iff

theorem not_isNegative_iff_not : (!isNegative x) = true ↔ ¬x.toInt < 0 := by
  rw [Bool.not_eq_true', ← Bool.not_eq_true, isNegative_iff]

theorem not_isNegative_iff : (!isNegative x) = true ↔ 0 ≤ x.toInt :=
  (not_isNegative_iff_not x).trans Int.not_lt

theorem not_isPositive_iff : (!isPositive x) = true ↔ x.toInt ≤ 0 := by
  rw [Bool.not_eq_true', ← Bool.not_eq_true, isPositive_iff, Int.not_lt]

end conditions

/-! ### The obligations -/

/-- Settles O39: each jump is one `branchTo`, JAL and JALR over the link's write. -/
theorem jumpsTransferAfterTheDelaySlot : Obligations.JumpsTransferAfterTheDelaySlot := fun _ _ _ _ hs =>
  have outside := whenNotDelaySlot_false hs
  ⟨transfers_of_branchTo (outside _), transfersLinking_of_branchTo (outside _), transfers_of_branchTo (outside _),
    transfersLinking_of_branchTo (outside _)⟩

/-- Settles O40: each branch by the outcomes of its form and what its condition says of the register. -/
theorem branchesTakeOrFallThrough : Obligations.BranchesTakeOrFallThrough := by
  refine ⟨fun s rs rt imm hs => ?plain, fun s rs imm hs => ?linking⟩
  case plain =>
    have outside := whenNotDelaySlot_false hs
    exact ⟨transfers_of_branchIf (outside _) beq_iff_eq, transfers_of_branchLikelyIf (outside _) beq_iff_eq,
      transfers_of_branchIf (outside _) bne_iff_ne, transfers_of_branchLikelyIf (outside _) bne_iff_ne,
      transfers_of_branchIf (outside _) (not_isPositive_iff _), transfers_of_branchLikelyIf (outside _) (not_isPositive_iff _),
      transfers_of_branchIf (outside _) (isPositive_iff _), transfers_of_branchLikelyIf (outside _) (isPositive_iff _),
      transfers_of_branchIf (outside _) (isNegative_iff _), transfers_of_branchLikelyIf (outside _) (isNegative_iff _),
      transfers_of_branchIf (outside _) (not_isNegative_iff _), transfers_of_branchLikelyIf (outside _) (not_isNegative_iff _)⟩
  case linking =>
    have outside := whenNotDelaySlot_false hs
    have hNeg := isNegative_iff (s.readX rs)
    have hNonneg := not_isNegative_iff_not (s.readX rs)
    obtain ⟨bltzalTaken, bltzalNot⟩ := transfersLinking_of_branchIf (i := .bltzal rs imm) (outside _) hNeg
    obtain ⟨bltzallTaken, bltzallNot⟩ := transfersLinking_of_branchLikelyIf (i := .bltzall rs imm) (outside _) hNeg
    obtain ⟨bgezalTaken, bgezalNot⟩ := transfersLinking_of_branchIf (i := .bgezal rs imm) (outside _) hNonneg
    obtain ⟨bgezallTaken, bgezallNot⟩ := transfersLinking_of_branchLikelyIf (i := .bgezall rs imm) (outside _) hNonneg
    exact ⟨fun hc => ⟨bltzalTaken hc, bltzallTaken hc, bgezalNot (not_not_intro hc), bgezallNot (not_not_intro hc)⟩,
      fun hc => ⟨bgezalTaken hc, bgezallTaken hc, bltzalNot hc, bltzallNot hc⟩⟩

end Sys2Proof.Machine
end

section
/-! PROOF. System calls, barriers and traps (44_trap_system.md): what the answer of a trap means for a state (R548), and the
condition each of the twelve tests, in the order it compares in. -/

namespace Sys2Proof.Machine

/-! ### The two outcomes of a trap (R548) -/

/-- A meaning that tests a trap condition raises when the condition holds and does nothing when it fails. -/
theorem outcomes_of_trapIf {i : Instr} {s : State} {b : Bool} {c : Prop} (h : exec i s = trapIf s b) (hb : b = true ↔ c) :
    (c → Raises i s .trap) ∧ (¬c → DoesNothing i s) :=
  ⟨fun hc => h.trans (if_pos (hb.2 hc)), fun hc => doesNothing_of_finish (h.trans (if_neg (mt hb.1 hc)))⟩

/-! ### The conditions on two registers -/

section conditions
variable (x y : Dword)

theorem ltSigned_iff : ltSigned x y = true ↔ x.toInt < y.toInt := decide_eq_true_iff

theorem ltUnsigned_iff : ltUnsigned x y = true ↔ x.toNat < y.toNat := decide_eq_true_iff

theorem not_ltSigned_iff : (!ltSigned x y) = true ↔ y.toInt ≤ x.toInt := by
  rw [Bool.not_eq_true', ← Bool.not_eq_true, ltSigned_iff, Int.not_lt]

theorem not_ltUnsigned_iff : (!ltUnsigned x y) = true ↔ y.toNat ≤ x.toNat := by
  rw [Bool.not_eq_true', ← Bool.not_eq_true, ltUnsigned_iff, Nat.not_lt]

/-- Registers are equal when their signed values are. -/
theorem beq_iff_toInt_eq : (x == y) = true ↔ x.toInt = y.toInt := beq_iff_eq.trans BitVec.toInt_inj.symm

theorem bne_iff_toInt_ne : (x != y) = true ↔ x.toInt ≠ y.toInt := bne_iff_ne.trans BitVec.toInt_inj.not.symm

end conditions

/-! ### The conditions on an immediate (R142) -/

section immediates
variable (x : Dword) (imm : Half)

theorem ltSigned_immS_iff : ltSigned x (immS imm) = true ↔ x.toInt < imm.toInt :=
  toInt_immS imm ▸ ltSigned_iff x (immS imm)

theorem not_ltSigned_immS_iff : (!ltSigned x (immS imm)) = true ↔ imm.toInt ≤ x.toInt :=
  toInt_immS imm ▸ not_ltSigned_iff x (immS imm)

theorem beq_immS_iff : (x == immS imm) = true ↔ x.toInt = imm.toInt :=
  toInt_immS imm ▸ beq_iff_toInt_eq x (immS imm)

theorem bne_immS_iff : (x != immS imm) = true ↔ x.toInt ≠ imm.toInt :=
  toInt_immS imm ▸ bne_iff_toInt_ne x (immS imm)

end immediates

/-! ### The obligations -/

/-- Settles O43: each meaning is one `raise` or one `finish`. -/
theorem systemCallsAndBarriers : Obligations.SystemCallsAndBarriers := fun _ _ _ _ =>
  ⟨rfl, rfl, doesNothing_of_finish rfl, doesNothing_of_finish rfl⟩

/-- Settles O42: each trap by the two outcomes of `trapIf` and what its condition says of its operands; the unsigned immediate
forms compare with the sign-extended field as a natural number, so they need no lemma of their own. -/
theorem trapsRaiseWhenTheirConditionHolds : Obligations.TrapsRaiseWhenTheirConditionHolds := by
  refine fun s rs rt imm => ⟨?registers, ?immediates⟩
  case registers =>
    exact ⟨outcomes_of_trapIf rfl (not_ltSigned_iff _ _), outcomes_of_trapIf rfl (not_ltUnsigned_iff _ _),
      outcomes_of_trapIf rfl (ltSigned_iff _ _), outcomes_of_trapIf rfl (ltUnsigned_iff _ _),
      outcomes_of_trapIf rfl (beq_iff_toInt_eq _ _), outcomes_of_trapIf rfl (bne_iff_toInt_ne _ _)⟩
  case immediates =>
    exact ⟨outcomes_of_trapIf rfl (not_ltSigned_immS_iff _ _), outcomes_of_trapIf rfl (not_ltUnsigned_iff _ (immS imm)),
      outcomes_of_trapIf rfl (ltSigned_immS_iff _ _), outcomes_of_trapIf rfl (ltUnsigned_iff _ (immS imm)),
      outcomes_of_trapIf rfl (beq_immS_iff _ _), outcomes_of_trapIf rfl (bne_immS_iff _ _)⟩

end Sys2Proof.Machine
end

section
/-! PROOF. The checks that the privileged (R360, R561) and the COP1 (R400) instructions begin with, found by the major opcode. The
theorems are elaborated one after the other, as in the sections that walk the instruction tables. -/

set_option Elab.async false

namespace Sys2Proof.Machine

open Sys2Proof.Laws.EncodeOpcode (majorOpcode)

/-! ### The families by the major opcode -/

/-- The encoder puts the row's major opcode in bits 31:26 (R147, step 1), in each of its three formats. -/
theorem fieldOpcode_encode (i : Instr) : fieldOpcode (encode i) = majorOpcode i := by
  cases i
  all_goals simp only [encode, fieldOpcode_encodeI, fieldOpcode_encodeR, fieldOpcode_encodeJ]
  all_goals rfl

/-- A privileged instruction begins with the check of COP0, ERET after the test for a delay slot (R360, R368). -/
theorem exec_of_isPrivileged {i : Instr} (hi : isPrivileged i = true) (s : State) :
    ∃ k, exec i s = whenCop0 s k ∨ (i = .eret ∧ exec i s = whenNotDelaySlot s (whenCop0 s k)) := by
  rw [isPrivileged, fieldOpcode_encode] at hi
  cases i with
  | mfc0 rt rd => exact ⟨_, .inl rfl⟩
  | mtc0 rt rd => exact ⟨_, .inl rfl⟩
  | tlbr => exact ⟨_, .inl rfl⟩
  | tlbwi => exact ⟨_, .inl rfl⟩
  | tlbwr => exact ⟨_, .inl rfl⟩
  | tlbp => exact ⟨_, .inl rfl⟩
  | eret => exact ⟨_, .inr ⟨rfl, rfl⟩⟩
  | _ => cases hi

/-- A COP1 instruction begins with the check of COP1, the branches after the test for a delay slot (R400, R407 to R410). -/
theorem exec_of_isCop1 {i : Instr} (hi : isCop1 i = true) (s : State) :
    ∃ k, exec i s = whenCop1 s k ∨ (controlTransfer i = true ∧ exec i s = whenNotDelaySlot s (whenCop1 s k)) := by
  rw [isCop1, fieldOpcode_encode] at hi
  cases i
  case bc1f | bc1t | bc1fl | bc1tl => exact ⟨_, .inr ⟨rfl, rfl⟩⟩
  all_goals first | exact absurd hi Bool.false_ne_true | exact ⟨_, .inl rfl⟩

/-! ### Without the enable -/

/-- `Cop0Usable()` fails outside kernel mode with CU0 = 0, bit by bit (R360, R560). -/
theorem State.cop0Usable_eq_false_iff (s : State) : s.cop0Usable = false ↔
    s.cp0.status.getLsbD 1 = false ∧ s.cp0.status.getLsbD 2 = false ∧ s.cp0.status.extractLsb' 3 2 ≠ 0 ∧
      s.cp0.status.getLsbD 28 = false := by
  simp [cop0Usable, kernelMode, exl, erl, ksu, cu0, statusBit, and_assoc]

theorem raises_of_not_cop0Usable {i : Instr} {s : State} (hi : isPrivileged i = true) (hu : s.cop0Usable = false)
    (hs : i = .eret → s.ds = false) : Raises i s (.coprocessorUnusable 0) := by
  obtain ⟨k, hExec | ⟨hEret, hExec⟩⟩ := exec_of_isPrivileged hi s
  · exact hExec.trans (whenCop0_unusable hu k)
  · exact hExec.trans ((whenNotDelaySlot_false (hs hEret) _).trans (whenCop0_unusable hu k))

theorem raises_of_not_cu1 {i : Instr} {s : State} (hi : isCop1 i = true) (hu : s.cu1 = false)
    (hs : controlTransfer i = true → s.ds = false) : Raises i s (.coprocessorUnusable 1) := by
  obtain ⟨k, hExec | ⟨hBranch, hExec⟩⟩ := exec_of_isCop1 hi s
  · exact hExec.trans (whenCop1_unusable hu k)
  · exact hExec.trans ((whenNotDelaySlot_false (hs hBranch) _).trans (whenCop1_unusable hu k))

/-- Settles O17: each family begins with its check, which fails. -/
theorem coprocessorsNeedTheirEnable : Obligations.CoprocessorsNeedTheirEnable :=
  ⟨⟨State.cop0Usable_eq_false_iff, fun _ _ => raises_of_not_cop0Usable⟩, fun _ _ => raises_of_not_cu1⟩

end Sys2Proof.Machine
end

section
/-! PROOF. The system control coprocessor where it is usable (45_cop0.md): what MFC0 reads, what MTC0 writes target by target, the
slot TLBP finds, and the return from an exception. -/

namespace Sys2Proof.Machine

/-- A word with one bit cleared. -/
theorem getLsbD_and_not_twoPow (w : Word) (j k : Nat) :
    (w &&& ~~~BitVec.twoPow 32 j).getLsbD k = (w.getLsbD k && decide (k ≠ j)) := by
  by_cases hk : k < 32
  · by_cases hj : k = j <;> simp [BitVec.getLsbD_twoPow, hk, hj]
  · simp [BitVec.getLsbD_of_ge _ _ (Nat.le_of_not_lt hk)]

/-! ### MFC0 and MTC0 (R361, R362) -/

section moves
variable {s : State} (hu : s.cop0Usable = true) {rt rd : RegNum}
include hu

theorem writesReg_mfc0 {v : Word} (h : s.cp0.read rd = some v) : WritesReg (.mfc0 rt rd) s rt (v.signExtend 64) :=
  writesReg_of_writeBack ((whenCop0_usable hu _).trans (by rw [h]))

theorem exec_mfc0_random (h : s.cp0.read rd = none) : exec (.mfc0 rt rd) s = halt .randomRead :=
  (whenCop0_usable hu _).trans (by rw [h])

theorem exec_mtc0 : exec (.mtc0 rt rd) s = writeCop0 s rd (s.readW rt) := whenCop0_usable hu _

theorem writesCop0_mtc0 {c : Cop0} (h : writeCop0 s rd (s.readW rt) = finishCop0 s c) : WritesCop0 (.mtc0 rt rd) s c :=
  writesCop0_of_finish ((exec_mtc0 hu).trans h)

theorem doesNothing_mtc0 (h : writeCop0 s rd (s.readW rt) = finish s) : DoesNothing (.mtc0 rt rd) s :=
  doesNothing_of_finish ((exec_mtc0 hu).trans h)

end moves

/-- Settles O14: the cell by its number in `Cop0.read`. -/
theorem moveFromCop0ReadsEveryCell : Obligations.MoveFromCop0ReadsEveryCell := by
  intro s rt hu
  refine ⟨?_, ?_, ?_, ?_, ?_, ?_, ?_, ?_, ?_, ?_, ?_, ?_, ?_, ?_, ?_, ?_, ?_, ?_, ?_, ?_, ?_, ?_, ?_, ?_, ?_, ?_, ?_, ?_, ?_, ?_, ?_,
    exec_mfc0_random hu rfl⟩
  all_goals exact writesReg_mfc0 hu rfl

/-- Settles O15: the target by its number in `writeCop0`, Index and Cause by the two outcomes of their checks. -/
theorem moveToCop0WritesByTarget : Obligations.MoveToCop0WritesByTarget := by
  refine ⟨fun s rt hu => ?stored, fun s rt hu => ⟨fun hv => ?index, fun hv => ?indexOutOfRange, ?compare, fun hv => ?cause,
    fun hv => ?causeNonZero, ?ignored, ?unknown⟩⟩
  case stored =>
    refine ⟨?_, ?_, ?_, ?_, ?_, ?_, ?_, ?_, ?_, ?_, ?_, ?_, ?_⟩
    all_goals exact writesCop0_mtc0 hu rfl
  case index => exact writesCop0_mtc0 hu (if_neg (Nat.not_lt.2 hv))
  case indexOutOfRange => exact (exec_mtc0 hu).trans (if_pos hv)
  case compare =>
    refine ⟨_, writesCop0_mtc0 hu rfl, ?_, fun k hk => ?_⟩
    · exact (getLsbD_and_not_twoPow _ 15 15).trans (by simp)
    · exact (getLsbD_and_not_twoPow _ 15 k).trans (by simp [hk])
  case cause => exact writesCop0_mtc0 hu (if_pos hv)
  case causeNonZero => exact (exec_mtc0 hu).trans (if_neg hv)
  case ignored =>
    simp only [List.forall_mem_cons]
    exact ⟨doesNothing_mtc0 hu rfl, doesNothing_mtc0 hu rfl, doesNothing_mtc0 hu rfl, doesNothing_mtc0 hu rfl,
      List.forall_mem_nil _⟩
  case unknown =>
    intro rd hrd
    refine (exec_mtc0 hu).trans ?_
    revert rd
    simp only [List.forall_mem_cons]
    exact ⟨rfl, rfl, rfl, rfl, rfl, rfl, rfl, rfl, rfl, rfl, rfl, List.forall_mem_nil _⟩

/-! ### TLBP (R366) -/

/-- `probeFrom` is the library's search for the first match, counted from `k`. -/
theorem probeFrom_eq_findIdx? (eh : Word) (k : Nat) (l : List TlbEntry) :
    probeFrom eh k l = (l.findIdx? fun e => e.probeMatches eh).map (· + k) := by
  induction l generalizing k with
  | nil => rfl
  | cons e rest ih =>
    rw [probeFrom, List.findIdx?_cons]
    split
    · simp
    · rw [ih, Option.map_map]
      congr 1
      funext n
      simp only [Function.comp]
      omega

/-- TLBP's condition for one slot, as R366 states it. -/
theorem TlbEntry.probeMatches_iff {e : TlbEntry} {eh : Word} :
    e.probeMatches eh = true ↔ e.vpn2 &&& ~~~e.mask.setWidth 19 = eh.extractLsb' 13 19 &&& ~~~e.mask.setWidth 19 ∧
      (e.global = true ∨ e.asid = eh.extractLsb' 0 8) := by
  simp [probeMatches, tagMask]

/-- The probe finds the slot that matches when no lower slot does. -/
theorem State.probeFrom_eq_some {s : State} {eh : Word} {k : BitVec 5} (hk : (s.readTlb k).probeMatches eh = true)
    (hLow : ∀ j : BitVec 5, j.toNat < k.toNat → (s.readTlb j).probeMatches eh = false) :
    probeFrom eh 0 s.tlb.toList = some k.toNat := by
  have hFirst : s.tlb.toList.findIdx? (fun e => e.probeMatches eh) = some k.toNat := by
    refine List.findIdx?_eq_some_iff_getElem.2 ⟨by simpa using k.isLt, hk, fun j hj => ?_⟩
    exact Bool.eq_false_iff.1 (hLow (BitVec.ofNatLT j (hj.trans k.isLt)) hj)
  rw [probeFrom_eq_findIdx?, hFirst]; rfl

/-- The probe finds nothing when no slot matches. -/
theorem State.probeFrom_eq_none {s : State} {eh : Word} (h : ∀ k, (s.readTlb k).probeMatches eh = false) :
    probeFrom eh 0 s.tlb.toList = none := by
  have hNone : s.tlb.toList.findIdx? (fun e => e.probeMatches eh) = none := by
    refine List.findIdx?_eq_none_iff.2 fun e he => ?_
    obtain ⟨k, rfl⟩ := State.mem_tlb.1 he
    exact h k
  rw [probeFrom_eq_findIdx?, hNone]; rfl

/-- TLBP writes Index by what the probe finds. -/
theorem writesCop0_tlbp {s : State} (hu : s.cop0Usable = true) {found : Option Nat}
    (h : probeFrom s.cp0.entryHi 0 s.tlb.toList = found) :
    WritesCop0 .tlbp s { s.cp0 with
      index := found.elim (s.cp0.index ||| 0x80000000#32) (BitVec.ofNat 32) } := by
  subst h
  refine writesCop0_of_finish ((whenCop0_usable hu _).trans ?_)
  cases probeFrom s.cp0.entryHi 0 s.tlb.toList <;> rfl

/-- Settles O19: the probe finds the lowest match, or nothing. -/
theorem tlbProbeFindsTheLowestMatch : Obligations.TlbProbeFindsTheLowestMatch := by
  intro s hu hits
  have hMatch : ∀ k, (s.readTlb k).probeMatches s.cp0.entryHi = true ↔ hits k := fun _ => TlbEntry.probeMatches_iff
  have hMiss : ∀ k, ¬hits k → (s.readTlb k).probeMatches s.cp0.entryHi = false := fun k hk =>
    Bool.eq_false_iff.2 (mt (hMatch k).1 hk)
  refine ⟨fun k hk hLow => ?_, fun hNone => ?_⟩
  · have hFound := State.probeFrom_eq_some ((hMatch k).2 hk) fun j hj => hMiss j (hLow j hj)
    exact BitVec.ofNat_toNat 32 k ▸ writesCop0_tlbp hu hFound
  · exact writesCop0_tlbp hu (State.probeFrom_eq_none fun k => hMiss k (hNone k))

/-! ### ERET (R368) -/

/-- Outside a delay slot and where COP0 is usable, ERET is decided by EXL alone. -/
theorem exec_eret {s : State} (hs : s.ds = false) (hu : s.cop0Usable = true) :
    exec .eret s = if s.exl then .next s.exceptionReturn else halt .eretWithoutException :=
  (whenNotDelaySlot_false hs _).trans (whenCop0_usable hu _)

/-- The return from an exception clears EXL, bit 1 of Status, and no other bit. -/
theorem State.exceptionReturn_statusBit (s : State) (k : Nat) :
    s.exceptionReturn.cp0.status.getLsbD k = (s.cp0.status.getLsbD k && decide (k ≠ 1)) :=
  getLsbD_and_not_twoPow s.cp0.status 1 k

/-- Settles O13: the return field by field, EXL by `exceptionReturn_statusBit`. -/
theorem eretReturns : Obligations.EretReturns := by
  intro s hs hu
  refine ⟨fun hExl => ?_, fun hExl => ?_⟩
  · refine ⟨_, (exec_eret hs hu).trans (if_pos hExl), by simp, by simp, by simp, ?_, fun k hk => ?_, by simp, rfl, by simp,
      fun r => State.readX_congr (by simp) r, ⟨by simp, by simp⟩, ⟨fun r => State.readFgr_congr (by simp) r, by simp, by simp⟩,
      ⟨by simp, by simp, by simp, by simp, by simp, by simp⟩, fun a => by simp⟩
    · exact (s.exceptionReturn_statusBit 1).trans (by simp)
    · exact (s.exceptionReturn_statusBit k).trans (by simp [hk])
  · exact (exec_eret hs hu).trans (if_neg (by simp [hExl]))

end Sys2Proof.Machine
end

section
/-! PROOF. Floating-point moves, branches, loads and stores (46_cop1_move_branch.md): the free value of CFC1 as a register write,
what the condition bit says to a branch, and the shapes of the accesses through the views. -/

namespace Sys2Proof.Machine

/-! ### CFC1 and CTC1 by the control register (R403, R406) -/

/-- A register write does not look at the model's counter. -/
theorem State.writeX_withFreeCount (s : State) (n : Nat) (rd : RegNum) (v : Dword) :
    ({ s with freeCount := n } : State).writeX rd v = { s.writeX rd v with freeCount := n } := by
  unfold State.writeX
  split <;> rfl

section control
variable {s : State} (hu : s.cu1 = true) {rt fs : RegNum}
include hu

/-- CFC1 of another control register writes the model's next free value, over the state whose counter has moved (log 17). -/
theorem writesRegOver_cfc1_other (h0 : fs ≠ 0) (h31 : fs ≠ 31) :
    WritesRegOver (.cfc1 rt fs) s { s with freeCount := s.freeCount + 1 } rt (Config.freeCfc1 s.freeCount) := by
  refine writesRegOver_of_writeBack ((whenCop1_usable hu _).trans ?_)
  rw [if_neg h0, if_neg h31, writeBack, s.writeX_withFreeCount (s.freeCount + 1)]

theorem exec_ctc1_fcr31 : exec (.ctc1 rt 31) s = finish { s with fcr31 := s.readW rt } := whenCop1_usable hu _

theorem doesNothing_ctc1_other (h31 : fs ≠ 31) : DoesNothing (.ctc1 rt fs) s :=
  doesNothing_of_finish ((whenCop1_usable hu _).trans (if_neg h31))

end control

/-! ### The condition bit as a branch condition (R407 to R410) -/

theorem State.condition_iff (s : State) : s.condition = true ↔ s.fcr31.getLsbD 23 = true := Iff.rfl

theorem State.not_condition_iff (s : State) : (!s.condition) = true ↔ ¬s.fcr31.getLsbD 23 = true := by
  rw [Bool.not_eq_true', ← Bool.not_eq_true, State.condition_iff]

/-! ### The shapes of the loads and stores, once the address is aligned and translates (R411 to R414) -/

section shapes
variable {i : Instr} {s : State} {ea pa : Word} {n : Nat} {r : RegNum}

theorem writesSOver_of_loadAt {f : Dword → Word} {v : Word}
    (hi : exec i s = loadAt s ea n fun x u => finish (u.writeS r (f x))) (ha : ea.toNat % n = 0)
    (hp : s.translate .load ea = .ok pa) (hv : f (s.physRead pa n) = v) : WritesSOver i s (s.afterRead pa n) r v := by
  subst hv
  exact writesSOver_of_finish (hi.trans (loadAt_ok (alignedTo_eq_true ha) hp _))

/-- The operand test comes after the read, which leaves FR (R554). -/
theorem writesDOver_of_loadAt {v : Dword} (hi : exec i s = loadAt s ea n fun x u => whenD u r (finish (u.writeD r x)))
    (hd : s.validD r = true) (ha : ea.toNat % n = 0) (hp : s.translate .load ea = .ok pa) (hv : s.physRead pa n = v) :
    WritesDOver i s (s.afterRead pa n) r v := by
  subst hv
  have hValid : (s.afterRead pa n).validD r = true := (s.afterRead_validD pa n r).trans hd
  exact writesDOver_of_finish (hi.trans ((loadAt_ok (alignedTo_eq_true ha) hp _).trans (whenD_valid hValid _)))

end shapes

/-- SDC1 is the store of `D[ft]` once its alignment and operand tests pass (R414, log 10). -/
theorem exec_sdc1_valid {s : State} {b ft : RegNum} {imm : Half} (hu : s.cu1 = true) (hd : s.validD ft = true)
    (ha : (s.effAddr b imm).toNat % 8 = 0) : exec (.sdc1 b ft imm) s = storeAny s (s.effAddr b imm) 8 (s.readD ft) :=
  (whenCop1_usable hu _).trans ((whenAligned_aligned (alignedTo_eq_true ha) _ _).trans (whenD_valid hd _))

/-! ### The obligations -/

/-- Settles O44: each move by the way its meaning ends; CFC1 of another register leaves the moved counter out of its frame. -/
theorem floatingMoves : Obligations.FloatingMoves := by
  intro s rt fs hu
  have usable := whenCop1_usable hu
  refine ⟨?mfc1, fun hd => ⟨?dmfc1, ?dmtc1⟩, ?mtc1, ?cfc1Fcr0, ?cfc1Fcr31, fun h0 h31 => ?cfc1Other, ?ctc1Fcr31,
    doesNothing_ctc1_other hu⟩
  case mfc1 => exact writesReg_of_writeBack (usable _)
  case dmfc1 => exact writesReg_of_writeBack ((usable _).trans (whenD_valid hd _))
  case dmtc1 => exact writesD_of_finish ((usable _).trans (whenD_valid hd _))
  case mtc1 => exact writesS_of_finish (usable _)
  case cfc1Fcr0 => exact writesReg_of_writeBack (usable _)
  case cfc1Fcr31 => exact writesReg_of_writeBack (usable _)
  case cfc1Other =>
    obtain ⟨t, hNext, hWrote, hRegs, hHiLo, hSystem, hFpu, ⟨hStop, hTime, hQueue, hNotRam, hPort, -⟩, hLink, hMem, hSeq⟩ :=
      writesRegOver_cfc1_other hu (rt := rt) h0 h31
    exact ⟨t, _, hNext, hWrote, hRegs, hHiLo, hSystem, hFpu, hLink, hMem, hStop, hTime, hQueue, hNotRam, hPort, hSeq⟩
  case ctc1Fcr31 =>
    exact ⟨_, exec_ctc1_fcr31 hu, rfl, rfl, rfl, fun r => State.readX_congr rfl r, ⟨rfl, rfl⟩, ⟨rfl, rfl⟩,
      ⟨rfl, rfl, rfl, rfl, rfl, rfl⟩, rfl, fun _ => rfl, ⟨rfl, rfl, rfl⟩⟩

/-- Settles O45: the loads through the views by the bytes assembled, the stores by the shapes of the integer stores. -/
theorem floatingLoadsAndStores : Obligations.FloatingLoadsAndStores := by
  intro s b ft imm pa hu ea m
  have usable := whenCop1_usable hu
  refine ⟨fun hp => ⟨fun ha => ?lwc1, fun ha hd => ?ldc1⟩, fun hp => ⟨fun ha => ?swc1, fun ha hd => ?sdc1⟩⟩
  case lwc1 => exact writesSOver_of_loadAt (usable _) ha hp (low32_assembleBytes _)
  case ldc1 => exact writesDOver_of_loadAt (usable _) hd ha hp (assembleBytes_eight _)
  case swc1 => exact stores_of_storeAt (usable _) ha hp
  case sdc1 => exact stores_of_storeAny (exec_sdc1_valid hu hd ha) hp

/-- Settles O46: each branch by the outcomes of its form, BC1F and BC1FL on the negated condition. -/
theorem floatingBranches : Obligations.FloatingBranches := by
  intro s imm hu hs
  have outside (k : Result) : whenNotDelaySlot s (whenCop1 s k) = k :=
    (whenNotDelaySlot_false hs _).trans (whenCop1_usable hu k)
  have hSet := s.condition_iff
  have hClear := s.not_condition_iff
  obtain ⟨bc1tTaken, bc1tNot⟩ := transfers_of_branchIf (i := .bc1t imm) (outside _) hSet
  obtain ⟨bc1tlTaken, bc1tlNot⟩ := transfers_of_branchLikelyIf (i := .bc1tl imm) (outside _) hSet
  obtain ⟨bc1fTaken, bc1fNot⟩ := transfers_of_branchIf (i := .bc1f imm) (outside _) hClear
  obtain ⟨bc1flTaken, bc1flNot⟩ := transfers_of_branchLikelyIf (i := .bc1fl imm) (outside _) hClear
  refine ⟨fun hc => ?set, fun hc => ?clear⟩
  case set => exact ⟨bc1tTaken hc, bc1tlTaken hc, bc1fNot (not_not_intro hc), bc1flNot (not_not_intro hc)⟩
  case clear =>
    have hNot := Bool.eq_false_iff.1 hc
    exact ⟨bc1fTaken hNot, bc1flTaken hNot, bc1tNot hNot, bc1tlNot hNot⟩

end Sys2Proof.Machine
end

section
/-! PROOF. The floating-point arithmetic instructions with CU1 = 1 and valid operands (47_cop1_arith.md): the view each shape of a
meaning writes. -/

namespace Sys2Proof.Machine

section shapes
variable {i : Instr} {s : State} {fs ft fd : RegNum} (hu : s.cu1 = true)
include hu

theorem writesS_of_binaryS {op : RoundMode → Word → Word → Word} (hi : exec i s = binaryS s fs ft fd op) :
    WritesS i s fd (op s.roundMode (s.readS fs) (s.readS ft)) :=
  writesS_of_finish (hi.trans (whenCop1_usable hu _))

theorem writesS_of_unaryS {op : Word → Word} (hi : exec i s = unaryS s fs fd op) : WritesS i s fd (op (s.readS fs)) :=
  writesS_of_finish (hi.trans (whenCop1_usable hu _))

theorem writesD_of_binaryD {op : RoundMode → Dword → Dword → Dword} (hi : exec i s = binaryD s fs ft fd op)
    (hfs : s.validD fs = true) (hft : s.validD ft = true) (hfd : s.validD fd = true) :
    WritesD i s fd (op s.roundMode (s.readD fs) (s.readD ft)) := by
  refine writesD_of_finish ?_
  rw [hi, binaryD, whenCop1_usable hu, whenD_valid hfs, whenD_valid hft, whenD_valid hfd]

theorem writesD_of_unaryD {op : Dword → Dword} (hi : exec i s = unaryD s fs fd op) (hfs : s.validD fs = true)
    (hfd : s.validD fd = true) : WritesD i s fd (op (s.readD fs)) := by
  refine writesD_of_finish ?_
  rw [hi, unaryD, whenCop1_usable hu, whenD_valid hfs, whenD_valid hfd]

end shapes

/-- Settles O47: each instruction by its shape, the double-precision ones with their operands valid. -/
theorem floatingArithmeticCompletes : Obligations.FloatingArithmeticCompletes := by
  refine ⟨fun s fs ft fd hu => ⟨?addS, ?subS, ?mulS, ?divS, ?sqrtS, fun hfs hft hfd => ⟨?addD, ?subD, ?mulD, ?divD, ?sqrtD⟩⟩,
    fun s fs fd hu => ⟨?absS, ?movS, ?negS, fun hfs hfd => ⟨?absD, ?movD, ?negD⟩⟩⟩
  case addS => exact writesS_of_binaryS hu rfl
  case subS => exact writesS_of_binaryS hu rfl
  case mulS => exact writesS_of_binaryS hu rfl
  case divS => exact writesS_of_binaryS hu rfl
  case sqrtS => exact writesS_of_unaryS hu rfl
  case addD => exact writesD_of_binaryD hu (exec_addD s ft fs fd) hfs hft hfd
  case subD => exact writesD_of_binaryD hu (exec_subD s ft fs fd) hfs hft hfd
  case mulD => exact writesD_of_binaryD hu (exec_mulD s ft fs fd) hfs hft hfd
  case divD => exact writesD_of_binaryD hu (exec_divD s ft fs fd) hfs hft hfd
  case sqrtD => exact writesD_of_unaryD hu (exec_sqrtD s fs fd) hfs hfd
  case absS => exact writesS_of_unaryS hu (op := fun v => v &&& 0x7FFFFFFF#32) rfl
  case movS => exact writesS_of_unaryS hu (op := fun v => v) rfl
  case negS => exact writesS_of_unaryS hu (op := fun v => v ^^^ 0x80000000#32) rfl
  case absD => exact writesD_of_unaryD hu (exec_absD s fs fd) hfs hfd
  case movD => exact writesD_of_unaryD hu (exec_movD s fs fd) hfs hfd
  case negD => exact writesD_of_unaryD hu (exec_negD s fs fd) hfs hfd

end Sys2Proof.Machine
end

section
/-! PROOF. The encodings below the sign of a format as a grid of real numbers (R420): encoding and value in the same order, the
finite ones below the encoding of infinity, and what `unpack` reads of each. -/

namespace Sys2Proof.Machine

/-! ### The format -/

/-- The format has at least one exponent bit and one fraction bit. -/
def FpFormat.Proper (f : FpFormat) : Prop := 1 ≤ f.expBits ∧ 1 ≤ f.fracBits

theorem proper_single : single.Proper := by unfold FpFormat.Proper; decide

theorem proper_double : double.Proper := by unfold FpFormat.Proper; decide

theorem FpFormat.signBit_eq (f : FpFormat) : f.signBit = 2 ^ f.expBits * 2 ^ f.fracBits := by
  rw [FpFormat.signBit, pow_add]

theorem FpFormat.infBits_lt_signBit (f : FpFormat) : f.infBits < f.signBit := by
  rw [FpFormat.infBits, f.signBit_eq]
  exact Nat.mul_lt_mul_of_pos_right (Nat.sub_lt (by positivity) one_pos) (by positivity)

theorem FpFormat.two_pow_expBits {f : FpFormat} (hf : f.Proper) : 2 ^ f.expBits = 2 * (f.bias + 1) := by
  obtain ⟨hE, -⟩ := hf
  have hpos : 0 < 2 ^ (f.expBits - 1) := by positivity
  rw [FpFormat.bias, Nat.sub_add_cancel hpos, ← pow_succ', Nat.sub_add_cancel hE]

theorem FpFormat.infBits_pos {f : FpFormat} (hf : f.Proper) : 0 < f.infBits := by
  have := f.two_pow_expBits hf
  exact Nat.mul_pos (by omega) (by positivity)

/-- The encoding of infinity is even. -/
theorem FpFormat.infBits_even {f : FpFormat} (hf : f.Proper) : f.infBits % 2 = 0 :=
  Nat.mod_eq_zero_of_dvd (dvd_mul_of_dvd_right (dvd_pow_self 2 (by have := hf.2; omega)) _)

theorem FpFormat.signBit_even {f : FpFormat} (hf : f.Proper) : f.signBit % 2 = 0 :=
  Nat.mod_eq_zero_of_dvd (dvd_pow_self 2 (by have := hf.2; omega))

/-! ### The grid -/

/-- The magnitude that the bits `b` below the sign encode (R420), with the encodings from infinity on read as if the exponent went
on growing: the grid on which every rounding takes place. -/
noncomputable def FpFormat.gridValue (f : FpFormat) (b : ℕ) : ℝ :=
  if b / 2 ^ f.fracBits = 0 then ((b % 2 ^ f.fracBits : ℕ) : ℝ) * 2 ^ f.minExp
  else ((b % 2 ^ f.fracBits + 2 ^ f.fracBits : ℕ) : ℝ) * 2 ^ (f.minExp + ((b / 2 ^ f.fracBits : ℕ) : ℤ) - 1)

/-- `n` units of the last place `2^(minExp + k)` have the encoding `k * 2^fracBits + n`: subnormal, normal and the first of the next
binade alike. -/
theorem FpFormat.gridValue_units (f : FpFormat) {k n : ℕ} (hn : n ≤ 2 ^ (f.fracBits + 1)) (hk : k = 0 ∨ 2 ^ f.fracBits ≤ n) :
    f.gridValue (k * 2 ^ f.fracBits + n) = n * 2 ^ (f.minExp + k) := by
  have hP : 0 < 2 ^ f.fracBits := by positivity
  have hdiv : (k * 2 ^ f.fracBits + n) / 2 ^ f.fracBits = k + n / 2 ^ f.fracBits := by
    rw [add_comm, Nat.add_mul_div_right _ _ hP, add_comm]
  have hmod : (k * 2 ^ f.fracBits + n) % 2 ^ f.fracBits = n % 2 ^ f.fracBits := by
    rw [add_comm, Nat.add_mul_mod_self_right]
  rw [FpFormat.gridValue, hdiv, hmod]
  rw [pow_succ] at hn
  generalize 2 ^ f.fracBits = P at *
  rcases lt_or_ge n P with hsmall | hbig
  · obtain rfl : k = 0 := hk.resolve_right (by omega)
    simp [Nat.div_eq_of_lt hsmall, Nat.mod_eq_of_lt hsmall]
  · obtain ⟨r, rfl⟩ := Nat.exists_eq_add_of_le hbig
    rcases lt_or_ge r P with hr | hr
    · have hq : (P + r) / P = 1 := by rw [Nat.add_div_left r hP, Nat.div_eq_of_lt hr]
      have hm : (P + r) % P = r := by rw [Nat.add_mod_left, Nat.mod_eq_of_lt hr]
      rw [hq, hm, if_neg (Nat.succ_ne_zero k), add_comm r P]
      congr 2
      push_cast
      ring
    · obtain rfl : r = P := by omega
      have hq : (r + r) / r = 2 := by rw [Nat.add_div_left r hP, Nat.div_self hP]
      have hm : (r + r) % r = 0 := by rw [Nat.add_mod_left, Nat.mod_self]
      rw [hq, hm, if_neg (by omega), show f.minExp + ((k + 2 : ℕ) : ℤ) - 1 = f.minExp + k + 1 by push_cast; ring,
        zpow_add_one₀ two_ne_zero]
      push_cast
      ring

/-- Every encoding is a number of units of its last place. -/
theorem FpFormat.exists_units (f : FpFormat) (b : ℕ) :
    ∃ k n, b = k * 2 ^ f.fracBits + n ∧ n < 2 ^ (f.fracBits + 1) ∧ (k = 0 ∨ 2 ^ f.fracBits ≤ n) := by
  have hP : 0 < 2 ^ f.fracBits := by positivity
  rw [pow_succ]
  rcases lt_or_ge b (2 ^ f.fracBits) with hb | hb
  · exact ⟨0, b, by omega, by omega, .inl rfl⟩
  · have hdiv : 1 ≤ b / 2 ^ f.fracBits := (Nat.one_le_div_iff hP).2 hb
    have hmod := Nat.mod_lt b hP
    refine ⟨b / 2 ^ f.fracBits - 1, b % 2 ^ f.fracBits + 2 ^ f.fracBits, ?_, by omega, .inr (by omega)⟩
    have hsplit := Nat.div_add_mod' b (2 ^ f.fracBits)
    rw [Nat.sub_mul, one_mul]
    have := Nat.mul_le_mul_right (2 ^ f.fracBits) hdiv
    omega

theorem FpFormat.gridValue_strictMono (f : FpFormat) : StrictMono f.gridValue := by
  refine strictMono_nat_of_lt_succ fun b => ?_
  obtain ⟨k, n, rfl, hn, hk⟩ := f.exists_units b
  rw [add_assoc, f.gridValue_units hn.le hk, f.gridValue_units (n := n + 1) hn (hk.imp_right (by omega))]
  push_cast
  have : (0 : ℝ) < 2 ^ (f.minExp + k) := by positivity
  linarith

theorem FpFormat.gridValue_zero (f : FpFormat) : f.gridValue 0 = 0 := by simp [FpFormat.gridValue]

theorem FpFormat.gridValue_nonneg (f : FpFormat) (b : ℕ) : 0 ≤ f.gridValue b := by
  rw [← f.gridValue_zero]
  exact f.gridValue_strictMono.monotone (Nat.zero_le b)

/-- Where overflow begins: the first encoding past the finite ones stands for `2^(bias + 1)`. -/
theorem FpFormat.gridValue_infBits {f : FpFormat} (hf : f.Proper) : f.gridValue f.infBits = 2 ^ (f.bias + 1) := by
  have hE := f.two_pow_expBits hf
  have hsplit : f.infBits = 2 * f.bias * 2 ^ f.fracBits + 2 ^ f.fracBits := by
    rw [FpFormat.infBits, hE, show 2 * (f.bias + 1) - 1 = 2 * f.bias + 1 by omega, Nat.succ_mul]
  rw [hsplit, f.gridValue_units (Nat.pow_le_pow_right two_pos (Nat.le_succ _)) (.inr le_rfl), Nat.cast_pow, Nat.cast_ofNat,
    ← zpow_natCast, ← zpow_add₀ two_ne_zero, ← zpow_natCast, FpFormat.minExp]
  congr 1
  push_cast
  ring

/-! ### What `unpack` reads -/

theorem FpFormat.packSign_lt (f : FpFormat) (neg : Bool) {body : ℕ} (hb : body < f.signBit) :
    packSign f neg body < 2 * f.signBit := by
  cases neg <;> simp only [packSign, Bool.false_eq_true, if_false, if_true] <;> omega

theorem FpFormat.signBit_le_packSign (f : FpFormat) (neg : Bool) {body : ℕ} (hb : body < f.signBit) :
    f.signBit ≤ packSign f neg body ↔ neg = true := by
  cases neg <;> simp [packSign, hb]

theorem FpFormat.packSign_mod_signBit (f : FpFormat) (neg : Bool) {body : ℕ} (hb : body < f.signBit) :
    packSign f neg body % f.signBit = body := by
  cases neg <;> simp [packSign, Nat.mod_eq_of_lt hb]

/-- Every pattern is a sign and the bits below it. -/
theorem FpFormat.exists_packSign (f : FpFormat) {bits : ℕ} (hb : bits < 2 * f.signBit) :
    ∃ body < f.signBit, bits = packSign f (decide (f.signBit ≤ bits)) body := by
  rcases lt_or_ge bits f.signBit with h | h
  · exact ⟨bits, h, by simp [packSign, h]⟩
  · exact ⟨bits - f.signBit, by omega, by simp [packSign, h]⟩

/-- An encoding is finite exactly when its exponent field is not all ones. -/
theorem FpFormat.lt_infBits_iff (f : FpFormat) {body : ℕ} (hb : body < f.signBit) :
    body < f.infBits ↔ body / 2 ^ f.fracBits ≠ 2 ^ f.expBits - 1 := by
  have hP : 0 < 2 ^ f.fracBits := by positivity
  have hlt : body / 2 ^ f.fracBits < 2 ^ f.expBits := Nat.div_lt_of_lt_mul (by rwa [mul_comm, ← f.signBit_eq])
  rw [FpFormat.infBits, ← Nat.div_lt_iff_lt_mul hP]
  omega

/-- What `unpack` answers for a sign and the bits below it (R420). -/
theorem unpack_packSign (f : FpFormat) (neg : Bool) {body : ℕ} (hs : body < f.signBit) :
    unpack f (packSign f neg body) =
      if body / 2 ^ f.fracBits = 2 ^ f.expBits - 1 then (if body % 2 ^ f.fracBits = 0 then .inf neg else .nan)
      else if body / 2 ^ f.fracBits = 0 then .fin neg (body % 2 ^ f.fracBits) f.minExp
      else .fin neg (body % 2 ^ f.fracBits + 2 ^ f.fracBits) (f.minExp + ((body / 2 ^ f.fracBits : ℕ) : ℤ) - 1) := by
  unfold unpack
  simp only [f.packSign_mod_signBit neg hs, f.signBit_le_packSign neg hs, Bool.decide_eq_true]

theorem hasValue_fin {neg : Bool} {mag : ℕ} {exp : ℤ} {y : ℝ} :
    HasValue (.fin neg mag exp) y ↔ y = (if neg then -1 else 1) * ((mag : ℝ) * 2 ^ exp) := by
  rw [HasValue, ← mul_assoc]
  exact ⟨by rintro ⟨_, _, _, h, rfl⟩; cases h; rfl, fun h => ⟨_, _, _, rfl, h⟩⟩

/-- A finite encoding stands for its sign and its value on the grid. -/
theorem hasValue_unpack_packSign (f : FpFormat) (neg : Bool) {body : ℕ} (hb : body < f.infBits) (y : ℝ) :
    HasValue (unpack f (packSign f neg body)) y ↔ y = (if neg then -1 else 1) * f.gridValue body := by
  have hs : body < f.signBit := hb.trans f.infBits_lt_signBit
  rw [unpack_packSign f neg hs, if_neg ((f.lt_infBits_iff hs).1 hb), FpFormat.gridValue]
  split <;> exact hasValue_fin

/-- From the exponent of all ones on, no pattern stands for a finite value. -/
theorem not_hasValue_unpack_packSign (f : FpFormat) (neg : Bool) {body : ℕ} (hs : body < f.signBit) (hb : f.infBits ≤ body)
    (y : ℝ) : ¬HasValue (unpack f (packSign f neg body)) y := by
  have hones := not_not.1 (mt (f.lt_infBits_iff hs).2 hb.not_gt)
  rintro ⟨_, _, _, h, -⟩
  rw [unpack_packSign f neg hs, if_pos hones] at h
  split at h <;> cases h

theorem unpack_packSign_infBits (f : FpFormat) (neg : Bool) : unpack f (packSign f neg f.infBits) = .inf neg := by
  have hP : 0 < 2 ^ f.fracBits := by positivity
  rw [unpack_packSign f neg f.infBits_lt_signBit, FpFormat.infBits, Nat.mul_div_cancel _ hP, if_pos rfl, Nat.mul_mod_left,
    if_pos rfl]

/-- The sign of a value is the sign bit of its pattern, whatever the pattern holds below it. -/
theorem unpack_sign {f : FpFormat} {bits : ℕ} {neg : Bool} (h : unpack f bits = .inf neg ∨ ∃ m e, unpack f bits = .fin neg m e) :
    neg = decide (f.signBit ≤ bits) := by
  unfold unpack at h
  dsimp only at h
  split_ifs at h <;> simp_all

/-- The finite values of a format are the points of the grid below infinity, with either sign. -/
theorem representable_iff (f : FpFormat) (v : ℝ) :
    Representable f v ↔ ∃ (neg : Bool) (b : ℕ), b < f.infBits ∧ v = (if neg then -1 else 1) * f.gridValue b := by
  constructor
  · rintro ⟨bits, hbits, hv⟩
    obtain ⟨body, hs, hpack⟩ := f.exists_packSign hbits
    rw [hpack] at hv
    have hb : body < f.infBits := by
      by_contra hb
      exact not_hasValue_unpack_packSign f _ hs (not_lt.1 hb) v hv
    exact ⟨_, body, hb, (hasValue_unpack_packSign f _ hb v).1 hv⟩
  · rintro ⟨neg, b, hb, hv⟩
    exact ⟨packSign f neg b, f.packSign_lt neg (hb.trans f.infBits_lt_signBit), (hasValue_unpack_packSign f neg hb v).2 hv⟩

/-- The largest finite value is the last point of the grid below infinity. -/
theorem isLargest_iff {f : FpFormat} (hf : f.Proper) (m : ℝ) : IsLargest f m ↔ m = f.gridValue (f.infBits - 1) := by
  have hb : f.infBits - 1 < f.infBits := Nat.sub_lt (f.infBits_pos hf) one_pos
  have := hasValue_unpack_packSign f false hb m
  simpa [IsLargest, packSign] using this

end Sys2Proof.Machine
end

section
/-! PROOF. What rounding on a grid of reals is, direction by direction, and that the encoding it gives, cut off at overflow, is
correctly rounded (R421). Signs come last: a negative number rounds as its magnitude does in the mirrored direction. -/

namespace Sys2Proof.Machine

/-! ### Rounding on a grid -/

/-- Whether a positive `t` between the neighbours `lo` and `hi` goes to `hi`, where `n` is the number of `lo` on the grid (R421). -/
def GoesUp (rm : RoundMode) (n : ℕ) (lo t hi : ℝ) : Prop :=
  match rm with
  | .nearest => (lo + hi) / 2 < t ∨ t = (lo + hi) / 2 ∧ n % 2 = 1
  | .zero => False
  | .up => lo < t
  | .down => False

/-- `b` is the number of the point of the grid `g` to which a positive `t` rounds in the direction `rm`. -/
def RoundsOn (g : ℕ → ℝ) (rm : RoundMode) (t : ℝ) (b : ℕ) : Prop :=
  ∃ b₀, g b₀ ≤ t ∧ t < g (b₀ + 1) ∧
    (GoesUp rm b₀ (g b₀) t (g (b₀ + 1)) ∧ b = b₀ + 1 ∨ ¬GoesUp rm b₀ (g b₀) t (g (b₀ + 1)) ∧ b = b₀)

/-- Only the order on the grid and the parity of the number decide. -/
theorem goesUp_scale {rm : RoundMode} {n n' : ℕ} {lo t hi c : ℝ} (hc : 0 < c) (hn : n' % 2 = n % 2) :
    GoesUp rm n' (lo * c) (t * c) (hi * c) ↔ GoesUp rm n lo t hi := by
  have hmid : (lo * c + hi * c) / 2 = (lo + hi) / 2 * c := by ring
  cases rm <;> simp only [GoesUp, hmid, hn, mul_lt_mul_iff_left₀ hc, mul_left_inj' hc.ne']

section grid
variable {g : ℕ → ℝ} (hg : StrictMono g) {t : ℝ} {b : ℕ}
include hg

/-- A point of the grid rounds to itself. -/
theorem roundsOn_self (rm : RoundMode) : RoundsOn g rm (g b) b := by
  have hlt : g b < g (b + 1) := hg (Nat.lt_succ_self b)
  refine ⟨b, le_rfl, hlt, .inr ⟨?_, rfl⟩⟩
  cases rm with
  | nearest =>
    rintro (h | ⟨h, -⟩) <;> linarith
  | up => exact lt_irrefl _
  | zero => exact id
  | down => exact id

/-- Upward, the least point not below. -/
theorem RoundsOn.up_least (h : RoundsOn g .up t b) : t ≤ g b ∧ ∀ b', t ≤ g b' → b ≤ b' := by
  obtain ⟨b₀, hlo, hhi, ⟨hup, rfl⟩ | ⟨hup, rfl⟩⟩ := h
  · exact ⟨hhi.le, fun b' hb' => hg.lt_iff_lt.1 (lt_of_lt_of_le hup hb')⟩
  · have heq : t = g b := le_antisymm (not_lt.1 hup) hlo
    exact ⟨heq.le, fun b' hb' => hg.le_iff_le.1 (heq ▸ hb')⟩

/-- To nearest, no point is closer, and as close is another only when the number is even. -/
theorem RoundsOn.nearest_closest (h : RoundsOn g .nearest t b) (b' : ℕ) :
    |t - g b| ≤ |t - g b'| ∧ (b' ≠ b → |t - g b'| = |t - g b| → b % 2 = 0) := by
  obtain ⟨b₀, hlo, hhi, hcase⟩ := h
  have hLoDist : |t - g b₀| = t - g b₀ := abs_of_nonneg (by linarith)
  have hHiDist : |t - g (b₀ + 1)| = g (b₀ + 1) - t := by rw [abs_sub_comm]; exact abs_of_pos (by linarith)
  have hParity : b₀ % 2 = 1 → (b₀ + 1) % 2 = 0 := by omega
  have hlt : g b₀ < g (b₀ + 1) := hg (Nat.lt_succ_self b₀)
  rcases le_or_gt b' b₀ with hb' | hb'
  · have hle : g b' ≤ g b₀ := hg.monotone hb'
    have hDist : |t - g b'| = t - g b' := abs_of_nonneg (by linarith)
    rcases hcase with ⟨hup, rfl⟩ | ⟨-, rfl⟩
    · rw [hDist, hHiDist]
      rcases hup with hup | ⟨hmid, hodd⟩
      · exact ⟨by linarith, fun _ heq => by linarith⟩
      · exact ⟨by linarith, fun _ _ => hParity hodd⟩
    · rw [hDist, hLoDist]
      exact ⟨by linarith, fun hne heq => absurd (hg.injective (by linarith)) hne⟩
  · have hle : g (b₀ + 1) ≤ g b' := hg.monotone hb'
    have hDist : |t - g b'| = g b' - t := by rw [abs_sub_comm]; exact abs_of_pos (by linarith)
    rcases hcase with ⟨-, rfl⟩ | ⟨hup, rfl⟩
    · rw [hDist, hHiDist]
      exact ⟨by linarith, fun hne heq => absurd (hg.injective (by linarith)) hne⟩
    · rw [hDist, hLoDist]
      obtain ⟨hle', hTie⟩ := not_or.1 hup
      refine ⟨by linarith, fun _ heq => ?_⟩
      by_contra hodd
      exact hTie ⟨by linarith, by omega⟩

/-- To nearest, a point with an even number is reached from the midpoint below it on. -/
theorem RoundsOn.nearest_le_iff {n : ℕ} (h : RoundsOn g .nearest t b) (hn : (n + 1) % 2 = 0) :
    n + 1 ≤ b ↔ (g n + g (n + 1)) / 2 ≤ t := by
  obtain ⟨b₀, hlo, hhi, hcase⟩ := h
  have hlt : g n < g (n + 1) := hg (Nat.lt_succ_self n)
  rcases lt_trichotomy b₀ n with hb | rfl | hb
  · have : g (b₀ + 1) ≤ g n := hg.monotone hb
    exact iff_of_false (by omega) (by linarith)
  · rcases hcase with ⟨hup, rfl⟩ | ⟨hup, rfl⟩
    · exact iff_of_true le_rfl (hup.elim le_of_lt fun h => h.1.ge)
    · refine iff_of_false (by omega) fun hle => hup ?_
      exact hle.lt_or_eq.imp_right fun heq => ⟨heq.symm, by omega⟩
  · have : g (n + 1) ≤ g b₀ := hg.monotone hb
    exact iff_of_true (by omega) (by linarith)

end grid

/-- Toward zero and downward, the point below. -/
theorem RoundsOn.below {g : ℕ → ℝ} {rm : RoundMode} {t : ℝ} {b : ℕ} (h : RoundsOn g rm t b) (hrm : rm = .zero ∨ rm = .down) :
    g b ≤ t ∧ t < g (b + 1) := by
  obtain ⟨b₀, hlo, hhi, ⟨hup, -⟩ | ⟨-, rfl⟩⟩ := h
  · rcases hrm with rfl | rfl <;> exact hup.elim
  · exact ⟨hlo, hhi⟩

/-! ### Positive numbers -/

/-- The bits below the sign of a positive result: the encoding on the grid, or that of an overflow (R421). -/
def cutOff (f : FpFormat) (rm : RoundMode) (b : ℕ) : ℕ := if f.infBits ≤ b then overflowBody f rm false else b

theorem cutOff_of_lt {f : FpFormat} {rm : RoundMode} {b : ℕ} (h : b < f.infBits) : cutOff f rm b = b := if_neg h.not_ge

theorem cutOff_of_ge {f : FpFormat} {rm : RoundMode} {b : ℕ} (h : f.infBits ≤ b) :
    cutOff f rm b = overflowBody f rm false := if_pos h

theorem overflowBody_le (f : FpFormat) (rm : RoundMode) (neg : Bool) : overflowBody f rm neg ≤ f.infBits := by
  cases rm <;> cases neg <;> simp [overflowBody]

theorem cutOff_lt_signBit (f : FpFormat) (rm : RoundMode) (b : ℕ) : cutOff f rm b < f.signBit := by
  rcases lt_or_ge b f.infBits with h | h
  · rw [cutOff_of_lt h]; exact h.trans f.infBits_lt_signBit
  · rw [cutOff_of_ge h]; exact (overflowBody_le f rm false).trans_lt f.infBits_lt_signBit

section positive
variable {f : FpFormat} (hf : f.Proper) {x : ℝ} (hx : 0 < x) {b : ℕ}

/-- A finite encoding with the sign clear stands for its value on the grid. -/
theorem hasValue_gridValue {b : ℕ} (hb : b < f.infBits) : HasValue (unpack f b) (f.gridValue b) := by
  simpa [packSign] using (hasValue_unpack_packSign f false hb _).2 rfl

/-- A representable value that is positive is a point of the grid. -/
theorem Representable.exists_gridValue {v : ℝ} (hv : Representable f v) (hpos : 0 < v) : ∃ b < f.infBits, v = f.gridValue b := by
  obtain ⟨neg, b, hb, rfl⟩ := (representable_iff f v).1 hv
  cases neg
  · exact ⟨b, hb, by simp⟩
  · have := f.gridValue_nonneg b
    simp only [if_true] at hpos
    linarith

/-- The magnitude of a representable value is a point of the grid. -/
theorem Representable.exists_abs_eq {v : ℝ} (hv : Representable f v) : ∃ b < f.infBits, |v| = f.gridValue b := by
  obtain ⟨neg, b, hb, rfl⟩ := (representable_iff f v).1 hv
  refine ⟨b, hb, ?_⟩
  cases neg <;> simp [abs_of_nonneg (f.gridValue_nonneg b)]

include hf in
/-- Toward zero and downward the result is the last finite point not above. -/
theorem cutOff_greatest {rm : RoundMode} (hrm : rm = .zero ∨ rm = .down) (h : RoundsOn f.gridValue rm x b) :
    cutOff f rm b < f.infBits ∧ f.gridValue (cutOff f rm b) ≤ x ∧
      ∀ b' < f.infBits, f.gridValue b' ≤ x → f.gridValue b' ≤ f.gridValue (cutOff f rm b) := by
  have hmono := f.gridValue_strictMono
  have hpos := f.infBits_pos hf
  obtain ⟨hlo, hhi⟩ := h.below hrm
  rcases lt_or_ge b f.infBits with hb | hb
  · rw [cutOff_of_lt hb]
    exact ⟨hb, hlo, fun b' _ hle => hmono.monotone (Nat.lt_succ_iff.1 (hmono.lt_iff_lt.1 (hle.trans_lt hhi)))⟩
  · have hmax : overflowBody f rm false = f.infBits - 1 := by rcases hrm with rfl | rfl <;> rfl
    rw [cutOff_of_ge hb, hmax]
    exact ⟨by omega, (hmono.monotone (by omega)).trans hlo, fun b' hb' _ => hmono.monotone (by omega)⟩

include hf hx in
/-- The encoding to which a positive number rounds on the grid, cut off at overflow, is correctly rounded. -/
theorem correctlyRounded_cutOff {rm : RoundMode} (h : RoundsOn f.gridValue rm x b) : CorrectlyRounded f rm x (cutOff f rm b) := by
  have hmono := f.gridValue_strictMono
  have hpos := f.infBits_pos hf
  have hs := cutOff_lt_signBit f rm b
  have hInf : unpack f f.infBits = .inf false := by simpa [packSign] using unpack_packSign_infBits f false
  refine ⟨by omega, iff_of_false hs.not_ge hx.le.not_gt, ?_⟩
  cases rm with
  | down =>
    obtain ⟨hfin, hle, hgreatest⟩ := cutOff_greatest hf (.inr rfl) h
    refine .inl ⟨_, hasValue_gridValue hfin, hle, fun v hv hvx => ?_⟩
    rcases le_or_gt v 0 with hv0 | hv0
    · exact hv0.trans (f.gridValue_nonneg _)
    · obtain ⟨b', hb', rfl⟩ := hv.exists_gridValue hv0
      exact hgreatest b' hb' hvx
  | zero =>
    obtain ⟨hfin, hle, hgreatest⟩ := cutOff_greatest hf (.inl rfl) h
    refine ⟨_, hasValue_gridValue hfin, ?_, fun v hv hvx => ?_⟩
    · rwa [abs_of_nonneg (f.gridValue_nonneg _), abs_of_pos hx]
    · obtain ⟨b', hb', hvb⟩ := hv.exists_abs_eq
      rw [abs_of_pos hx] at hvx
      rw [abs_of_nonneg (f.gridValue_nonneg _), hvb]
      exact hgreatest b' hb' (hvb ▸ hvx)
  | up =>
    obtain ⟨hge, hleast⟩ := h.up_least hmono
    rcases lt_or_ge b f.infBits with hb | hb
    · rw [cutOff_of_lt hb]
      refine .inl ⟨_, hasValue_gridValue hb, hge, fun v hv hxv => ?_⟩
      obtain ⟨b', -, rfl⟩ := hv.exists_gridValue (hx.trans_le hxv)
      exact hmono.monotone (hleast b' hxv)
    · rw [cutOff_of_ge hb]
      refine .inr ⟨hInf, fun m hm => ?_⟩
      rw [(isLargest_iff hf m).1 hm]
      by_contra hle
      have := hleast _ (not_lt.1 hle)
      omega
  | nearest =>
    have hclosest := h.nearest_closest hmono
    have hOverflow : f.infBits ≤ b ↔ (f.gridValue (f.infBits - 1) + 2 ^ (f.bias + 1)) / 2 ≤ x := by
      have hSucc : f.infBits - 1 + 1 = f.infBits := Nat.sub_add_cancel hpos
      have := h.nearest_le_iff hmono (n := f.infBits - 1) (by rw [hSucc]; exact f.infBits_even hf)
      rwa [hSucc, f.gridValue_infBits hf] at this
    rcases lt_or_ge b f.infBits with hb | hb
    · rw [cutOff_of_lt hb]
      refine .inl ⟨_, hasValue_gridValue hb, fun v hv => ?_, fun m hm => ?_⟩
      · rcases lt_or_ge v 0 with hv0 | hv0
        · have hZero := (hclosest 0).1
          rw [f.gridValue_zero, sub_zero, abs_of_pos hx] at hZero
          have hFar : x < |x - v| := by rw [abs_of_pos (by linarith)]; linarith
          exact ⟨hZero.trans hFar.le, fun _ heq => by linarith⟩
        · obtain ⟨b', -, hvb⟩ := hv.exists_abs_eq
          rw [abs_of_nonneg hv0] at hvb
          subst hvb
          exact ⟨(hclosest b').1, fun hne => (hclosest b').2 fun heq => hne (heq ▸ rfl)⟩
      · rw [(isLargest_iff hf m).1 hm, abs_of_pos hx]
        exact not_le.1 (mt hOverflow.2 hb.not_ge)
    · have hBody : cutOff f .nearest b = f.infBits := cutOff_of_ge hb
      rw [hBody]
      refine .inr ⟨?_, fun m hm => ?_⟩
      · rw [hInf, decide_eq_false f.infBits_lt_signBit.not_ge]
      · rw [(isLargest_iff hf m).1 hm, abs_of_pos hx]
        exact hOverflow.1 hb

end positive

/-! ### Negative numbers -/

/-- The direction that does to a negative number what `rm` does to its magnitude. -/
def mirror : RoundMode → RoundMode
  | .nearest => .nearest
  | .zero => .zero
  | .up => .down
  | .down => .up

theorem unpack_packSign_not (f : FpFormat) (neg : Bool) {body : ℕ} (hs : body < f.signBit) :
    unpack f (packSign f (!neg) body) = (unpack f (packSign f neg body)).negate := by
  rw [unpack_packSign f _ hs, unpack_packSign f _ hs]
  split_ifs <;> rfl

theorem hasValue_negate {v : FpValue} {y : ℝ} : HasValue v.negate y ↔ HasValue v (-y) := by
  cases v with
  | nan => exact iff_of_false (fun ⟨_, _, _, h, _⟩ => by cases h) (fun ⟨_, _, _, h, _⟩ => by cases h)
  | inf neg => exact iff_of_false (fun ⟨_, _, _, h, _⟩ => by cases h) (fun ⟨_, _, _, h, _⟩ => by cases h)
  | fin neg mag exp =>
    rw [FpValue.negate, hasValue_fin, hasValue_fin]
    cases neg <;> simp [neg_eq_iff_eq_neg]

theorem Representable.neg {f : FpFormat} {v : ℝ} (hv : Representable f v) : Representable f (-v) := by
  obtain ⟨neg, b, hb, rfl⟩ := (representable_iff f v).1 hv
  refine (representable_iff f _).2 ⟨!neg, b, hb, ?_⟩
  cases neg <;> simp

/-- A correctly rounded positive number with the sign set is its negation, correctly rounded in the mirrored direction. -/
theorem CorrectlyRounded.neg {f : FpFormat} (hf : f.Proper) {rm : RoundMode} {x : ℝ} {body : ℕ} (hx : 0 < x)
    (h : CorrectlyRounded f (mirror rm) x body) : CorrectlyRounded f rm (-x) (f.signBit + body) := by
  obtain ⟨-, hsign, hcase⟩ := h
  have hs : body < f.signBit := not_le.1 (mt hsign.1 hx.le.not_gt)
  have hUnpack : unpack f (f.signBit + body) = (unpack f body).negate := by
    simpa [packSign] using unpack_packSign_not f false hs
  have hValue {y : ℝ} (hy : HasValue (unpack f body) y) : HasValue (unpack f (f.signBit + body)) (-y) := by
    rwa [hUnpack, hasValue_negate, neg_neg]
  refine ⟨by omega, iff_of_true (Nat.le_add_right _ _) (neg_neg_of_pos hx), ?_⟩
  cases rm with
  | down =>
    rcases hcase with ⟨y, hy, hle, hbest⟩ | ⟨hinf, hover⟩
    · exact .inl ⟨-y, hValue hy, neg_le_neg hle, fun v hv hvx => le_neg_of_le_neg (hbest (-v) hv.neg (le_neg_of_le_neg hvx))⟩
    · exact .inr ⟨by rw [hUnpack, hinf]; rfl, fun m hm => neg_lt_neg (hover m hm)⟩
  | up =>
    rcases hcase with ⟨y, hy, hle, hbest⟩ | ⟨hinf, hover⟩
    · exact .inl ⟨-y, hValue hy, neg_le_neg hle, fun v hv hvx => neg_le_of_neg_le (hbest (-v) hv.neg (neg_le_of_neg_le hvx))⟩
    · exact .inr ⟨by rw [hUnpack, hinf]; rfl, fun m hm => lt_neg_of_lt_neg (hover m hm)⟩
  | zero =>
    obtain ⟨y, hy, hle, hbest⟩ := hcase
    refine ⟨-y, hValue hy, ?_⟩
    rw [abs_neg, abs_neg]
    exact ⟨hle, hbest⟩
  | nearest =>
    have hDist (u : ℝ) : |-x - u| = |x - -u| := by rw [← abs_neg]; congr 1; ring
    rcases hcase with ⟨y, hy, hbest, hover⟩ | ⟨hinf, hover⟩
    · refine .inl ⟨-y, hValue hy, fun v hv => ?_, fun m hm => by rw [abs_neg]; exact hover m hm⟩
      obtain ⟨hle, htie⟩ := hbest (-v) hv.neg
      rw [hDist, hDist, neg_neg]
      refine ⟨hle, fun hne heq => ?_⟩
      have hEven := htie (fun hv => hne (by rw [← hv, neg_neg])) heq
      have := f.signBit_even hf
      omega
    · refine .inr ⟨?_, fun m hm => by rw [abs_neg]; exact hover m hm⟩
      rw [hUnpack, hinf, decide_eq_false hs.not_ge, decide_eq_true (Nat.le_add_right _ _)]
      rfl

end Sys2Proof.Machine
end

section
/-! PROOF. `roundTo` is correct rounding (R421): the cut of a magnitude to units of the last place is rounding on the integers, the
units are points of the grid, and a last bit that only says that something was cut off decides nothing (log 24). -/

namespace Sys2Proof.Machine

/-! ### Rounding to an integer -/

/-- The integers as a grid. -/
theorem natCast_strictMono : StrictMono fun n : ℕ => (n : ℝ) := Nat.strictMono_cast

/-- `t` lies where the integer `mag` lies, in units of `2^sh`: on it, or within one of an odd `mag` when at least two bits are to be
cut off. -/
def Near (mag : ℕ) (sh : ℤ) (t : ℝ) : Prop :=
  t = mag * 2 ^ sh ∨ mag % 2 = 1 ∧ sh ≤ -2 ∧ ((mag : ℝ) - 1) * 2 ^ sh < t ∧ t < ((mag : ℝ) + 1) * 2 ^ sh

/-- Where `t` lies between `q` and `q + 1`, as the remainder `r` of a cut by `d` bits tells it. -/
structure CutAt (q r d : ℕ) (t : ℝ) : Prop where
  exact : r = 0 → t = q
  above : r ≠ 0 → (q : ℝ) < t
  below : t < q + 1
  lowHalf : 2 * r < 2 ^ d → t < (q + (q + 1)) / 2
  tie : 2 * r = 2 ^ d → t = (q + (q + 1)) / 2
  highHalf : 2 ^ d < 2 * r → ((q : ℝ) + (q + 1)) / 2 < t

/-- The comparisons of a cut, from the value in units of which a step holds `2 * H`. -/
theorem CutAt.of_scaled {q r k H : ℕ} {t : ℝ} (hH : H = 2 ^ k) (hr : r < 2 * H)
    (hlow : (q : ℝ) * (2 * H) + r - 1 < t * (2 * H)) (hhigh : t * (2 * H) < (q : ℝ) * (2 * H) + r + 1)
    (hexact : r = 0 ∨ r = H → t * (2 * H) = (q : ℝ) * (2 * H) + r) : CutAt q r (k + 1) t := by
  have hpos : (0 : ℝ) < 2 * H := by rw [hH]; positivity
  have hPow : 2 ^ (k + 1) = 2 * H := by rw [hH, pow_succ']
  constructor <;> intros
  case exact h => exact mul_right_cancel₀ hpos.ne' (by rw [hexact (.inl h), h]; simp)
  case above h =>
    have : (1 : ℝ) ≤ r := by exact_mod_cast Nat.one_le_iff_ne_zero.2 h
    exact lt_of_mul_lt_mul_right (by linarith) hpos.le
  case below =>
    have : (r : ℝ) + 1 ≤ 2 * H := by exact_mod_cast hr
    exact lt_of_mul_lt_mul_right (by linarith) hpos.le
  case lowHalf h =>
    have : (r : ℝ) + 1 ≤ H := by exact_mod_cast (by omega : r + 1 ≤ H)
    exact lt_of_mul_lt_mul_right (by linarith) hpos.le
  case tie h =>
    have hrH : r = H := by omega
    exact mul_right_cancel₀ hpos.ne' (by rw [hexact (.inr hrH), hrH]; ring)
  case highHalf h =>
    have : (H : ℝ) + 1 ≤ r := by exact_mod_cast (by omega : H + 1 ≤ r)
    exact lt_of_mul_lt_mul_right (by linarith) hpos.le

/-- A magnitude cut off by `k + 1` bits. -/
theorem Near.cutAt {mag k : ℕ} {t : ℝ} (h : Near mag (Int.negSucc k) t) :
    CutAt (mag / 2 ^ (k + 1)) (mag % 2 ^ (k + 1)) (k + 1) t := by
  have hPow : 2 ^ (k + 1) = 2 * 2 ^ k := pow_succ' 2 k
  have hsplit := Nat.div_add_mod' mag (2 ^ (k + 1))
  have hsplitR : ((mag / 2 ^ (k + 1) : ℕ) : ℝ) * (2 * (2 ^ k : ℕ)) + (mag % 2 ^ (k + 1) : ℕ) = mag := by
    rw [hPow] at hsplit ⊢
    exact_mod_cast hsplit
  have hrem : mag % 2 ^ (k + 1) < 2 * 2 ^ k := hPow ▸ Nat.mod_lt mag (by positivity)
  have hpos : (0 : ℝ) < 2 * (2 ^ k : ℕ) := by positivity
  have hUnit (y : ℝ) : y * 2 ^ Int.negSucc k * (2 * (2 ^ k : ℕ)) = y := by
    rw [Nat.cast_pow, Nat.cast_ofNat, zpow_negSucc, ← pow_succ', inv_mul_cancel_right₀ (by positivity)]
  rcases h with rfl | ⟨hodd, hcut, hlow, hhigh⟩
  · refine .of_scaled rfl hrem ?_ ?_ fun _ => ?_ <;> rw [hUnit, hsplitR] <;> linarith
  · have hlow' := mul_lt_mul_of_pos_right hlow hpos
    have hhigh' := mul_lt_mul_of_pos_right hhigh hpos
    rw [hUnit] at hlow' hhigh'
    refine .of_scaled rfl hrem (by rwa [hsplitR]) (by rwa [hsplitR]) fun hEven => ?_
    obtain ⟨j, rfl⟩ : ∃ j, k = j + 1 := ⟨k - 1, by omega⟩
    have hTwo : 2 ^ (j + 1) = 2 * 2 ^ j := pow_succ' 2 j
    have hOdd : mag % 2 ^ (j + 1 + 1) % 2 = 1 := by rw [Nat.mod_mod_of_dvd _ (dvd_pow_self 2 (by omega)), hodd]
    omega

/-- The cut goes up exactly when the value does, between the quotient and the next integer. -/
theorem CutAt.roundsUp_iff {q r d : ℕ} {t : ℝ} (h : CutAt q r d t) (rm : RoundMode) :
    roundsUp rm false q r d = true ↔ GoesUp rm q q t ((q + 1 : ℕ) : ℝ) := by
  push_cast
  cases rm with
  | nearest =>
    simp only [roundsUp, GoesUp, Bool.or_eq_true, decide_eq_true_eq, Bool.and_eq_true, beq_iff_eq]
    rcases lt_trichotomy (2 * r) (2 ^ d) with hlt | heq | hgt
    · have := h.lowHalf hlt
      exact iff_of_false (by omega) (by rintro (h | ⟨h, -⟩) <;> linarith)
    · have := h.tie heq
      simp [heq, ← this]
    · exact iff_of_true (.inl hgt) (.inl (h.highHalf hgt))
  | zero => simp [roundsUp, GoesUp]
  | up =>
    simp only [roundsUp, GoesUp, Bool.not_false, Bool.true_and, bne_iff_ne]
    exact ⟨h.above, fun hlt hr => hlt.ne' (h.exact hr)⟩
  | down => simp [roundsUp, GoesUp]

/-- `roundShift` rounds on the integers (R421, R451). -/
theorem roundsOn_roundShift {mag : ℕ} {sh : ℤ} {t : ℝ} (rm : RoundMode) (h : Near mag sh t) :
    RoundsOn (fun n => (n : ℝ)) rm t (roundShift rm false mag sh) := by
  cases sh with
  | ofNat k =>
    obtain rfl : t = ((mag * 2 ^ k : ℕ) : ℝ) := by
      rcases h with rfl | ⟨-, hcut, -⟩
      · simp
      · exact absurd hcut (by simp only [Int.ofNat_eq_natCast]; omega)
    exact roundsOn_self natCast_strictMono rm
  | negSucc k =>
    have hcut := h.cutAt
    have hlo : ((mag / 2 ^ (k + 1) : ℕ) : ℝ) ≤ t := by
      by_cases hr : mag % 2 ^ (k + 1) = 0
      · exact (hcut.exact hr).ge
      · exact (hcut.above hr).le
    refine ⟨_, hlo, by push_cast; exact_mod_cast hcut.below, ?_⟩
    rw [← hcut.roundsUp_iff rm, roundShift]
    by_cases hup : roundsUp rm false (mag / 2 ^ (k + 1)) (mag % 2 ^ (k + 1)) (k + 1) = true
    · exact .inl ⟨hup, if_pos hup⟩
    · exact .inr ⟨hup, if_neg hup⟩

/-! ### From units of the last place to the encoding -/

/-- The real number `a` is `mag * 2^exp`, or the odd `mag` is precise beyond the format by two bits and stands for what lies strictly
between its neighbours: the last bit is sticky (log 24). -/
def StandsFor (f : FpFormat) (mag : ℕ) (exp : ℤ) (a : ℝ) : Prop :=
  a = mag * 2 ^ exp ∨
    mag % 2 = 1 ∧ f.fracBits + 2 ≤ Nat.log2 mag ∧ ((mag : ℝ) - 1) * 2 ^ exp < a ∧ a < ((mag : ℝ) + 1) * 2 ^ exp

/-- In units of the last place. -/
theorem StandsFor.near {f : FpFormat} {mag : ℕ} {exp : ℤ} {a : ℝ} (h : StandsFor f mag exp a) :
    Near mag (exp - quantumExp f mag exp) (a / 2 ^ quantumExp f mag exp) := by
  have hq : (Nat.log2 mag : ℤ) + exp - f.fracBits ≤ quantumExp f mag exp := le_max_left _ _
  have hpos : (0 : ℝ) < 2 ^ quantumExp f mag exp := by positivity
  have hUnit (y : ℝ) : y * 2 ^ (exp - quantumExp f mag exp) = y * 2 ^ exp / 2 ^ quantumExp f mag exp := by
    rw [zpow_sub₀ two_ne_zero, mul_div_assoc]
  simp only [Near, hUnit]
  rcases h with rfl | ⟨hodd, hprec, hlow, hhigh⟩
  · exact .inl rfl
  · exact .inr ⟨hodd, by omega, by gcongr, by gcongr⟩

section units
variable {f : FpFormat} {mag : ℕ} {exp : ℤ} {a : ℝ} (hmag : mag ≠ 0) (h : StandsFor f mag exp a)
include hmag h

/-- What a magnitude stands for has its leading bit. -/
theorem StandsFor.leading : (2 : ℝ) ^ ((Nat.log2 mag : ℤ) + exp) ≤ a ∧ a < 2 ^ ((Nat.log2 mag : ℤ) + exp + 1) := by
  have hpos : (0 : ℝ) < 2 ^ exp := by positivity
  have hlo : 2 ^ Nat.log2 mag ≤ mag := Nat.log2_self_le hmag
  have hhi : mag + 1 ≤ 2 ^ (Nat.log2 mag + 1) := Nat.lt_log2_self
  have hhiR : (mag : ℝ) + 1 ≤ 2 ^ (Nat.log2 mag + 1) := by exact_mod_cast hhi
  rw [add_right_comm, zpow_add₀ two_ne_zero, zpow_add₀ two_ne_zero, ← Nat.cast_add_one, zpow_natCast, zpow_natCast]
  rcases h with rfl | ⟨hodd, hprec, hlow, hhigh⟩
  · have hloR : (2 : ℝ) ^ Nat.log2 mag ≤ mag := by exact_mod_cast hlo
    exact ⟨by gcongr, by gcongr; linarith⟩
  · have hEven : 2 ^ Nat.log2 mag % 2 = 0 := Nat.mod_eq_zero_of_dvd (dvd_pow_self 2 (by omega))
    have hloR : (2 : ℝ) ^ Nat.log2 mag ≤ mag - 1 := by
      rw [le_sub_iff_add_le]
      exact_mod_cast (by omega : 2 ^ Nat.log2 mag + 1 ≤ mag)
    exact ⟨le_trans (by gcongr) hlow.le, hhigh.trans_le (by gcongr)⟩

theorem StandsFor.pos : 0 < a := lt_of_lt_of_le (by positivity) (h.leading hmag).1

/-- The number of units is less than twice the fraction's range, and fills it above the subnormal grid. -/
theorem StandsFor.units_bounds : a / 2 ^ quantumExp f mag exp < 2 ^ (f.fracBits + 1) ∧
    (quantumExp f mag exp = f.minExp ∨ 2 ^ f.fracBits ≤ a / 2 ^ quantumExp f mag exp) := by
  obtain ⟨hlo, hhi⟩ := h.leading hmag
  have hpos : (0 : ℝ) < 2 ^ quantumExp f mag exp := by positivity
  rw [div_lt_iff₀ hpos, le_div_iff₀ hpos, ← zpow_natCast, ← zpow_natCast, ← zpow_add₀ two_ne_zero, ← zpow_add₀ two_ne_zero]
  have hq : (Nat.log2 mag : ℤ) + exp - f.fracBits ≤ quantumExp f mag exp := le_max_left _ _
  refine ⟨hhi.trans_le (zpow_le_zpow_right₀ one_le_two (by push_cast; omega)), ?_⟩
  rcases max_choice ((Nat.log2 mag : ℤ) + exp - f.fracBits) f.minExp with hmax | hmax
  · refine .inr (le_trans (zpow_le_zpow_right₀ one_le_two ?_) hlo)
    rw [quantumExp, hmax]
    omega
  · exact .inl hmax

end units

/-- The encoding of a count of units before the test for overflow. -/
def uncutBody (f : FpFormat) (rm : RoundMode) (mag : ℕ) (exp : ℤ) : ℕ :=
  (quantumExp f mag exp - f.minExp).toNat * 2 ^ f.fracBits + roundShift rm false mag (exp - quantumExp f mag exp)

/-- The encoding that `roundBody` computes is the one to which the number rounds on the grid. -/
theorem StandsFor.roundsOn_uncutBody {f : FpFormat} (hf : f.Proper) {mag : ℕ} {exp : ℤ} {a : ℝ} (hmag : mag ≠ 0)
    (h : StandsFor f mag exp a) (rm : RoundMode) : RoundsOn f.gridValue rm a (uncutBody f rm mag exp) := by
  obtain ⟨n, hlo, hhi, hcase⟩ := roundsOn_roundShift rm h.near
  obtain ⟨hlt, hfill⟩ := h.units_bounds hmag
  unfold uncutBody
  generalize roundShift rm false mag (exp - quantumExp f mag exp) = n' at hcase ⊢
  have hq : f.minExp ≤ quantumExp f mag exp := le_max_right _ _
  generalize quantumExp f mag exp = q at *
  obtain ⟨k, rfl⟩ : ∃ k : ℕ, q = f.minExp + k := ⟨(q - f.minExp).toNat, by omega⟩
  rw [add_sub_cancel_left, Int.toNat_natCast]
  have hn : n < 2 ^ (f.fracBits + 1) := by
    have : (n : ℝ) < 2 ^ (f.fracBits + 1) := hlo.trans_lt hlt
    exact_mod_cast this
  have hk : k = 0 ∨ 2 ^ f.fracBits ≤ n := hfill.imp (by omega) fun hle => by
    have : ((2 ^ f.fracBits : ℕ) : ℝ) < (n + 1 : ℕ) := by push_cast; push_cast at hhi; linarith
    exact Nat.lt_succ_iff.1 (by exact_mod_cast this)
  have hpos : (0 : ℝ) < 2 ^ (f.minExp + k) := by positivity
  have hGrid := f.gridValue_units hn.le hk
  have hGridSucc := f.gridValue_units (n := n + 1) hn (hk.imp_right (by omega))
  have hParity : (k * 2 ^ f.fracBits + n) % 2 = n % 2 := by
    rw [Nat.add_mod, Nat.mod_eq_zero_of_dvd (dvd_mul_of_dvd_right (dvd_pow_self 2 (by have := hf.2; omega)) k), zero_add,
      Nat.mod_mod]
  have hUnits : a / 2 ^ (f.minExp + k) * 2 ^ (f.minExp + k) = a := div_mul_cancel₀ a hpos.ne'
  refine ⟨k * 2 ^ f.fracBits + n, ?_, ?_, ?_⟩
  · rw [hGrid]
    exact (le_div_iff₀ hpos).1 hlo
  · rw [add_assoc, hGridSucc]
    exact (div_lt_iff₀ hpos).1 hhi
  · have hGoesUp := goesUp_scale (rm := rm) (lo := n) (hi := (n + 1 : ℕ)) (t := a / 2 ^ (f.minExp + k)) hpos hParity
    rw [hUnits] at hGoesUp
    rw [add_assoc, hGridSucc, hGrid, hGoesUp]
    exact hcase.imp (And.imp_right fun h => by rw [h]) (And.imp_right fun h => by rw [h])

/-! ### Signs -/

theorem roundShift_mirror (rm : RoundMode) (mag : ℕ) (sh : ℤ) :
    roundShift rm true mag sh = roundShift (mirror rm) false mag sh := by
  cases sh with
  | ofNat k => rfl
  | negSucc k => cases rm <;> rfl

theorem overflowBody_mirror (f : FpFormat) (rm : RoundMode) : overflowBody f rm true = overflowBody f (mirror rm) false := by
  cases rm <;> rfl

theorem roundBody_false {f : FpFormat} {rm : RoundMode} {mag : ℕ} {exp : ℤ} (hmag : mag ≠ 0) :
    roundBody f rm false mag exp = cutOff f rm (uncutBody f rm mag exp) := if_neg hmag

theorem roundBody_true {f : FpFormat} {rm : RoundMode} {mag : ℕ} {exp : ℤ} (hmag : mag ≠ 0) :
    roundBody f rm true mag exp = cutOff f (mirror rm) (uncutBody f (mirror rm) mag exp) := by
  rw [roundBody, if_neg hmag]
  simp only [roundShift_mirror, overflowBody_mirror]
  rfl

/-- `roundTo` is correct rounding of every number whose magnitude its argument stands for (R421). -/
theorem correctlyRounded_roundTo {f : FpFormat} (hf : f.Proper) (rm : RoundMode) {neg : Bool} {mag : ℕ} {exp : ℤ} {a x : ℝ}
    (hmag : mag ≠ 0) (h : StandsFor f mag exp a) (hx : x = (if neg then -1 else 1) * a) :
    CorrectlyRounded f rm x (roundTo f rm neg mag exp) := by
  have hpos := h.pos hmag
  subst hx
  cases neg with
  | false =>
    simpa [roundTo, packSign, roundBody_false hmag] using correctlyRounded_cutOff hf hpos (h.roundsOn_uncutBody hf hmag rm)
  | true =>
    have hMirror := correctlyRounded_cutOff hf hpos (h.roundsOn_uncutBody hf hmag (mirror rm))
    simpa [roundTo, packSign, roundBody_true hmag] using hMirror.neg hf hpos

end Sys2Proof.Machine
end

section
/-! PROOF. Each operation as one rounding (R421): the exact sum and product, the quotient and the root with a sticky last bit
(log 24), and the conversions. -/

namespace Sys2Proof.Machine

/-- The result is a number, and it is `x` correctly rounded. -/
def RoundsTo (f : FpFormat) (rm : RoundMode) (x : ℝ) (r : Option ℕ) : Prop := ∃ bits, r = some bits ∧ CorrectlyRounded f rm x bits

theorem RoundsTo.result32 {rm : RoundMode} {x : ℝ} {r : Option ℕ} (h : RoundsTo single rm x r) (src : NaNSource32) :
    CorrectlyRounded single rm x (result32 r src).toNat := by
  obtain ⟨bits, rfl, hbits⟩ := h
  have hlt : bits < 2 ^ 32 := hbits.1
  rwa [Machine.result32, BitVec.toNat_ofNat, Nat.mod_eq_of_lt hlt]

theorem RoundsTo.result64 {rm : RoundMode} {x : ℝ} {r : Option ℕ} (h : RoundsTo double rm x r) (src : NaNSource64) :
    CorrectlyRounded double rm x (result64 r src).toNat := by
  obtain ⟨bits, rfl, hbits⟩ := h
  have hlt : bits < 2 ^ 64 := hbits.1
  rwa [Machine.result64, BitVec.toNat_ofNat, Nat.mod_eq_of_lt hlt]

/-- A finite value that is not zero has a magnitude that is not zero. -/
theorem mag_ne_zero {neg : Bool} {mag : ℕ} {exp : ℤ} (h : (if neg then -1 else 1) * ((mag : ℝ) * 2 ^ exp) ≠ 0) : mag ≠ 0 := by
  rintro rfl
  simp at h

theorem roundTo_zero (f : FpFormat) (rm : RoundMode) (neg : Bool) (exp : ℤ) : roundTo f rm neg 0 exp = packSign f neg 0 := by
  rw [roundTo, roundBody, if_pos rfl]

/-- What has a value is finite. -/
theorem HasValue.exists_fin {v : FpValue} {x : ℝ} (h : HasValue v x) :
    ∃ neg mag exp, v = .fin neg mag exp ∧ x = (if neg then -1 else 1) * ((mag : ℝ) * 2 ^ exp) := by
  obtain ⟨neg, mag, exp, rfl, hx⟩ := h
  exact ⟨neg, mag, exp, rfl, by rw [hx, mul_assoc]⟩

theorem HasValue.eq_zero_iff {neg : Bool} {mag : ℕ} {exp : ℤ} {x : ℝ} (h : HasValue (.fin neg mag exp) x) : x = 0 ↔ mag = 0 := by
  have : (2 : ℝ) ^ exp ≠ 0 := by positivity
  rw [hasValue_fin.1 h]
  cases neg <;> simp [this]

/-! ### Finite values as integers -/

/-- A finite value in units of a smaller power of two. -/
theorem signedAt_mul {base exp : ℤ} (neg : Bool) (mag : ℕ) (h : base ≤ exp) :
    (signedAt base neg mag exp : ℝ) * 2 ^ base = (if neg then -1 else 1) * ((mag : ℝ) * 2 ^ exp) := by
  obtain ⟨k, rfl⟩ : ∃ k : ℕ, exp = base + k := ⟨(exp - base).toNat, by omega⟩
  rw [signedAt, add_sub_cancel_left, Int.toNat_natCast, zpow_add₀ two_ne_zero, zpow_natCast]
  cases neg <;> push_cast <;> simp <;> ring

/-- The sum of two finite values in units of the smaller of their powers of two. -/
theorem signedAt_add_mul (a b : Bool) (m n : ℕ) (x y : ℤ) :
    ((signedAt (min x y) a m x + signedAt (min x y) b n y : ℤ) : ℝ) * 2 ^ min x y =
      (if a then -1 else 1) * ((m : ℝ) * 2 ^ x) + (if b then -1 else 1) * ((n : ℝ) * 2 ^ y) := by
  rw [Int.cast_add, add_mul, signedAt_mul a m (min_le_left x y), signedAt_mul b n (min_le_right x y)]

/-- An integer is its sign and its magnitude. -/
theorem intCast_eq_sign_mul (i : ℤ) : (i : ℝ) = (if decide (i < 0) then -1 else 1) * (i.natAbs : ℝ) := by
  rcases lt_or_ge i 0 with h | h
  · simp [h, Nat.cast_natAbs, abs_of_neg]
  · simp [h.not_gt, Nat.cast_natAbs, abs_of_nonneg h]

/-- The sign of a product and of a quotient. -/
theorem sign_bne (a b : Bool) :
    (if a != b then (-1 : ℝ) else 1) = (if a then -1 else 1) * (if b then -1 else 1) ∧
      (if a != b then (-1 : ℝ) else 1) = (if a then -1 else 1) / (if b then -1 else 1) := by
  cases a <;> cases b <;> norm_num

/-! ### Quotients and roots with a sticky last bit (log 24) -/

/-- A last bit that says whether anything was cut off, below the integer part of a number. -/
theorem standsFor_sticky {f : FpFormat} {cut : Prop} [Decidable cut] {q : ℕ} {v : ℝ} {e : ℤ} (hexact : cut → v = q)
    (hbetween : ¬cut → (q : ℝ) < v ∧ v < q + 1) (hprec : f.fracBits + 2 ≤ Nat.log2 (2 * q + if cut then 0 else 1)) :
    StandsFor f (2 * q + if cut then 0 else 1) (e - 1) (v * 2 ^ e) := by
  have hpos : (0 : ℝ) < 2 ^ (e - 1) := by positivity
  have hStep : v * 2 ^ e = 2 * v * 2 ^ (e - 1) := by
    rw [show e = e - 1 + 1 by ring, zpow_add_one₀ two_ne_zero, add_sub_cancel_right]
    ring
  rw [hStep]
  by_cases hcut : cut
  · refine .inl ?_
    rw [if_pos hcut, hexact hcut]
    push_cast
    ring
  · obtain ⟨hlo, hhi⟩ := hbetween hcut
    rw [if_neg hcut] at hprec ⊢
    refine .inr ⟨by omega, hprec, mul_lt_mul_of_pos_right ?_ hpos, mul_lt_mul_of_pos_right ?_ hpos⟩ <;> push_cast <;> linarith

/-- The bits of twice a number and a sticky bit. -/
theorem log2_sticky {q k c : ℕ} (h : 2 ^ k ≤ q) : 2 * q + c ≠ 0 ∧ k + 1 ≤ Nat.log2 (2 * q + c) := by
  have hq : 0 < q := lt_of_lt_of_le (by positivity) h
  have hne : 2 * q + c ≠ 0 := by omega
  exact ⟨hne, (Nat.le_log2 hne).2 (by rw [pow_succ]; omega)⟩

/-- A dividend scaled up by the bits of the divisor leaves the bits that were asked for. -/
theorem pow_le_scaled_div {m n : ℕ} (k : ℕ) (hm : m ≠ 0) (hn : n ≠ 0) : 2 ^ k ≤ m * 2 ^ (k + 1 + Nat.log2 n) / n := by
  rw [Nat.le_div_iff_mul_le (Nat.pos_of_ne_zero hn)]
  calc 2 ^ k * n ≤ 2 ^ k * 2 ^ (Nat.log2 n + 1) := Nat.mul_le_mul_left _ Nat.lt_log2_self.le
    _ = 2 ^ (k + 1 + Nat.log2 n) := by rw [← pow_add]; congr 1; ring
    _ ≤ m * 2 ^ (k + 1 + Nat.log2 n) := Nat.le_mul_of_pos_left _ (Nat.pos_of_ne_zero hm)

/-- The sticky quotient stands for the exact one. -/
theorem standsFor_stickyQuotient {f : FpFormat} {m n : ℕ} {e : ℤ} (hn : n ≠ 0)
    (hprec : f.fracBits + 2 ≤ Nat.log2 (stickyQuotient m n)) :
    StandsFor f (stickyQuotient m n) (e - 1) ((m : ℝ) / n * 2 ^ e) := by
  have hnR : (0 : ℝ) < n := by positivity
  have hsplit : ((m / n : ℕ) : ℝ) * n + (m % n : ℕ) = m := by exact_mod_cast Nat.div_add_mod' m n
  have hlt : ((m % n : ℕ) : ℝ) < n := by exact_mod_cast Nat.mod_lt m (Nat.pos_of_ne_zero hn)
  refine standsFor_sticky (fun hrem => ?_) (fun hrem => ?_) hprec
  · rw [div_eq_iff hnR.ne', ← hsplit, hrem]
    simp
  · have hpos : (0 : ℝ) < (m % n : ℕ) := by exact_mod_cast Nat.pos_of_ne_zero hrem
    rw [lt_div_iff₀ hnR, div_lt_iff₀ hnR]
    exact ⟨by linarith, by linarith⟩

/-- The bits from `k - 1` down complete a partial root. -/
theorem sqrtBits_spec (n : ℕ) : ∀ k r : ℕ, r * r ≤ n → n < (r + 2 ^ k) * (r + 2 ^ k) →
    sqrtBits n k r * sqrtBits n k r ≤ n ∧ n < (sqrtBits n k r + 1) * (sqrtBits n k r + 1)
  | 0, r, hlo, hhi => ⟨hlo, hhi⟩
  | k + 1, r, hlo, hhi => by
    rw [sqrtBits]
    split
    case isTrue h => exact sqrtBits_spec n k _ h (by rwa [add_assoc, ← two_mul, ← pow_succ'])
    case isFalse h => exact sqrtBits_spec n k r hlo (not_le.1 h)

theorem intSqrt_eq_sqrt (n : ℕ) : intSqrt n = Nat.sqrt n := by
  have hTop : n < (0 + 2 ^ (Nat.log2 n / 2 + 1)) * (0 + 2 ^ (Nat.log2 n / 2 + 1)) := by
    rw [zero_add, ← pow_add]
    exact Nat.lt_log2_self.trans_le (Nat.pow_le_pow_right two_pos (by omega))
  obtain ⟨hlo, hhi⟩ := sqrtBits_spec n _ 0 (Nat.zero_le n) hTop
  exact Nat.eq_sqrt.2 ⟨hlo, hhi⟩

/-- The exponent of a root, of a magnitude scaled up so that it is whole. -/
theorem half_exponent (e : ℤ) (k : ℕ) : 2 * ((e - (2 * k + (e % 2).toNat : ℕ)) / 2) = e - (2 * k + (e % 2).toNat : ℕ) := by
  omega

/-- The sticky root stands for the exact one. -/
theorem standsFor_root {f : FpFormat} {n : ℕ} {e : ℤ}
    (hprec : f.fracBits + 2 ≤ Nat.log2 (2 * Nat.sqrt n + if Nat.sqrt n * Nat.sqrt n = n then 0 else 1)) :
    StandsFor f (2 * Nat.sqrt n + if Nat.sqrt n * Nat.sqrt n = n then 0 else 1) (e - 1) (√n * 2 ^ e) := by
  refine standsFor_sticky (fun hsq => ?_) (fun hsq => ⟨?_, ?_⟩) hprec
  · conv_lhs => rw [← hsq, Nat.cast_mul, Real.sqrt_mul_self (Nat.cast_nonneg _)]
  · rw [Real.lt_sqrt (Nat.cast_nonneg _), sq]
    exact_mod_cast lt_of_le_of_ne (Nat.sqrt_le n) hsq
  · rw [Real.sqrt_lt' (by positivity), sq]
    exact_mod_cast Nat.lt_succ_sqrt n

/-- Half the exponent of the scaling is taken out of the root. -/
theorem sqrt_scaled (m k : ℕ) {e h : ℤ} (hHalf : 2 * h = e - k) : √((m * 2 ^ k : ℕ) : ℝ) * 2 ^ h = √((m : ℝ) * 2 ^ e) := by
  have hExp : (2 : ℝ) ^ e = 2 ^ k * (2 ^ h * 2 ^ h) := by
    rw [← zpow_add₀ two_ne_zero, ← zpow_natCast, ← zpow_add₀ two_ne_zero, ← two_mul, hHalf, add_sub_cancel]
  have hNonneg : (0 : ℝ) ≤ 2 ^ h := by positivity
  rw [hExp, ← mul_assoc, Real.sqrt_mul (by positivity), Real.sqrt_mul_self hNonneg]
  push_cast
  rfl

/-! ### Small magnitudes -/

/-- A magnitude that the fraction has room for, not below the subnormal grid, is on the grid. -/
theorem exists_gridValue_eq {f : FpFormat} {mag : ℕ} {exp : ℤ} (hmag : mag ≠ 0) (hroom : Nat.log2 mag ≤ f.fracBits)
    (hexp : f.minExp ≤ exp) :
    ∃ b, f.gridValue b = mag * 2 ^ exp := by
  have hExact : StandsFor f mag exp (mag * 2 ^ exp) := .inl rfl
  obtain ⟨hlt, hfill⟩ := hExact.units_bounds hmag
  have hq : f.minExp ≤ quantumExp f mag exp := le_max_right _ _
  have hqe : quantumExp f mag exp ≤ exp := max_le (by omega) hexp
  generalize quantumExp f mag exp = q at *
  obtain ⟨k, rfl⟩ : ∃ k : ℕ, q = f.minExp + k := ⟨(q - f.minExp).toNat, by omega⟩
  obtain ⟨j, rfl⟩ : ∃ j : ℕ, exp = f.minExp + k + j := ⟨(exp - (f.minExp + k)).toNat, by omega⟩
  have hUnits : (mag : ℝ) * 2 ^ (f.minExp + k + j) = ((mag * 2 ^ j : ℕ) : ℝ) * 2 ^ (f.minExp + k) := by
    rw [zpow_add₀ two_ne_zero _ (j : ℤ), zpow_natCast]
    push_cast
    ring
  rw [hUnits, mul_div_cancel_right₀ _ (by positivity)] at hlt hfill
  rw [hUnits]
  exact ⟨_, f.gridValue_units (by exact_mod_cast hlt.le) (hfill.imp (by omega) fun h => by exact_mod_cast h)⟩

/-! ### The operations -/

section operations
variable {f : FpFormat} (hf : f.Proper) (rm : RoundMode) {A B : FpValue} {x y : ℝ}
include hf

theorem roundsTo_fpAdd (hA : HasValue A x) (hB : HasValue B y) (h : x + y ≠ 0) : RoundsTo f rm (x + y) (fpAdd f rm A B) := by
  obtain ⟨a, m, e, rfl, rfl⟩ := hA.exists_fin
  obtain ⟨b, n, e', rfl, rfl⟩ := hB.exists_fin
  refine ⟨_, rfl, ?_⟩
  rw [← signedAt_add_mul] at h ⊢
  generalize signedAt (min e e') a m e + signedAt (min e e') b n e' = sum at h ⊢
  have hsum : sum ≠ 0 := by rintro rfl; simp at h
  rw [if_neg hsum]
  exact correctlyRounded_roundTo hf rm (Int.natAbs_ne_zero.2 hsum) (.inl rfl) (by rw [← mul_assoc, ← intCast_eq_sign_mul])

theorem roundsTo_fpSub (hA : HasValue A x) (hB : HasValue B y) (h : x - y ≠ 0) :
    RoundsTo f rm (x - y) (fpAdd f rm A B.negate) := by
  rw [sub_eq_add_neg] at h ⊢
  exact roundsTo_fpAdd hf rm hA (hasValue_negate.2 (by rwa [neg_neg])) h

theorem roundsTo_fpMul (hA : HasValue A x) (hB : HasValue B y) (h : x * y ≠ 0) : RoundsTo f rm (x * y) (fpMul f rm A B) := by
  obtain ⟨a, m, e, rfl, rfl⟩ := hA.exists_fin
  obtain ⟨b, n, e', rfl, rfl⟩ := hB.exists_fin
  have hm := mag_ne_zero (left_ne_zero_of_mul h)
  have hn := mag_ne_zero (right_ne_zero_of_mul h)
  refine ⟨_, rfl, correctlyRounded_roundTo hf rm (Nat.mul_ne_zero hm hn) (.inl rfl) ?_⟩
  rw [zpow_add₀ two_ne_zero, (sign_bne a b).1]
  push_cast
  ring

theorem roundsTo_fpDiv (hA : HasValue A x) (hB : HasValue B y) (hx : x ≠ 0) (hy : y ≠ 0) :
    RoundsTo f rm (x / y) (fpDiv f rm A B) := by
  obtain ⟨a, m, e, rfl, rfl⟩ := hA.exists_fin
  obtain ⟨b, n, e', rfl, rfl⟩ := hB.exists_fin
  have hm := mag_ne_zero hx
  have hn := mag_ne_zero hy
  have hnR : (n : ℝ) ≠ 0 := by exact_mod_cast hn
  obtain ⟨hne, hprec⟩ := log2_sticky (pow_le_scaled_div (f.fracBits + 3) hm hn)
  refine ⟨_, if_neg hn, correctlyRounded_roundTo hf rm hne (standsFor_stickyQuotient hn (le_trans (by omega) hprec)) ?_⟩
  have hScale : (2 : ℝ) ^ (e - e' - (f.fracBits + 4 + Nat.log2 n : ℕ)) = 2 ^ e / 2 ^ e' / 2 ^ (f.fracBits + 4 + Nat.log2 n) := by
    rw [zpow_sub₀ two_ne_zero, zpow_sub₀ two_ne_zero, zpow_natCast]
  rw [hScale, (sign_bne a b).2]
  push_cast
  field_simp

theorem roundsTo_fpSqrt (hA : HasValue A x) (hy : 0 < y) (hsq : y * y = x) : RoundsTo f rm y (fpSqrt f rm A) := by
  obtain ⟨a, m, e, rfl, rfl⟩ := hA.exists_fin
  have hx := mul_pos hy hy
  rw [hsq] at hx
  have hm := mag_ne_zero hx.ne'
  obtain rfl : a = false := by
    rcases a
    · rfl
    · have : (0 : ℝ) ≤ (m : ℝ) * 2 ^ e := by positivity
      simp only [if_true] at hx
      linarith
  have hHalf := half_exponent e (f.fracBits + 4)
  generalize hk : 2 * (f.fracBits + 4) + (e % 2).toNat = k at hHalf
  have hRoot : 2 ^ (f.fracBits + 4) ≤ Nat.sqrt (m * 2 ^ k) := by
    rw [Nat.le_sqrt, ← pow_add]
    exact (Nat.pow_le_pow_right two_pos (by omega)).trans (Nat.le_mul_of_pos_left _ (Nat.pos_of_ne_zero hm))
  obtain ⟨hne, hprec⟩ := log2_sticky hRoot
  have hResult : fpSqrt f rm (.fin false m e) = some (roundTo f rm false
      (2 * Nat.sqrt (m * 2 ^ k) + if Nat.sqrt (m * 2 ^ k) * Nat.sqrt (m * 2 ^ k) = m * 2 ^ k then 0 else 1)
      ((e - k) / 2 - 1)) := by
    simp only [fpSqrt, if_neg hm, hk, intSqrt_eq_sqrt, Bool.false_eq_true, if_false]
  refine ⟨_, hResult, correctlyRounded_roundTo hf rm hne (standsFor_root (le_trans (by omega) hprec)) ?_⟩
  have hRootOfValue : y = √((m : ℝ) * 2 ^ e) := by
    rw [← Real.sqrt_mul_self hy.le, hsq]
    simp
  rw [sqrt_scaled m k hHalf, hRootOfValue]
  simp

theorem roundsTo_fpConvert (hA : HasValue A x) (hx : x ≠ 0) : RoundsTo f rm x (fpConvert f rm A) := by
  obtain ⟨a, m, e, rfl, rfl⟩ := hA.exists_fin
  exact ⟨_, rfl, correctlyRounded_roundTo hf rm (mag_ne_zero hx) (.inl rfl) rfl⟩

theorem correctlyRounded_fpFromInt {i : ℤ} (hi : i ≠ 0) : CorrectlyRounded f rm i (fpFromInt f rm i) := by
  refine correctlyRounded_roundTo hf rm (Int.natAbs_ne_zero.2 hi) (.inl rfl) ?_
  rw [zpow_zero, mul_one, ← intCast_eq_sign_mul]

/-- What the format holds rounds to itself, to nearest. -/
theorem hasValue_of_correctlyRounded {bits : ℕ} (h : CorrectlyRounded f .nearest x bits) (hx : Representable f x) :
    HasValue (unpack f bits) x := by
  obtain ⟨-, -, ⟨y, hy, hbest, -⟩ | ⟨-, hover⟩⟩ := h
  · have hDist := (hbest x hx).1
    rw [sub_self, abs_zero] at hDist
    rwa [eq_of_abs_sub_nonpos hDist]
  · obtain ⟨b, hb, habs⟩ := hx.exists_abs_eq
    have hover := hover _ ((isLargest_iff hf _).2 rfl)
    have hpos := f.infBits_pos hf
    have hle : f.gridValue b ≤ f.gridValue (f.infBits - 1) := f.gridValue_strictMono.monotone (by omega)
    have hlt : f.gridValue (f.infBits - 1) < f.gridValue f.infBits := f.gridValue_strictMono (by omega)
    rw [f.gridValue_infBits hf] at hlt
    linarith

end operations

/-! ### CVT.D.S (R474) -/

/-- Every finite single is a finite double. -/
theorem Representable.double_of_single {x : ℝ} (hx : Representable single x) : Representable double x := by
  obtain ⟨neg, b, hb, rfl⟩ := (representable_iff single x).1 hx
  have hBelow := single.gridValue_strictMono hb
  rw [FpFormat.gridValue_infBits proper_single] at hBelow
  suffices h : ∃ b', double.gridValue b' = single.gridValue b by
    obtain ⟨b', hb'⟩ := h
    refine (representable_iff double _).2 ⟨neg, b', double.gridValue_strictMono.lt_iff_lt.1 ?_, by rw [hb']⟩
    rw [hb', FpFormat.gridValue_infBits proper_double]
    exact hBelow.trans_le (pow_le_pow_right₀ one_le_two (by decide))
  obtain ⟨k, n, rfl, hn, hk⟩ := single.exists_units b
  rw [single.gridValue_units hn.le hk]
  by_cases hzero : n = 0
  · exact ⟨0, by simp [hzero, double.gridValue_zero]⟩
  · have hroom : Nat.log2 n < 24 := (Nat.log2_lt hzero).2 hn
    have hfrac : double.fracBits = 52 := rfl
    have hsub : double.minExp ≤ single.minExp := by decide
    exact exists_gridValue_eq hzero (by omega) (by omega)

/-- CVT.D.S of a finite value is exact (R474): a zero keeps its sign, any other value is one of the doubles. -/
theorem hasValue_cvt64of32 {a : Word} {x : ℝ} (hx : HasValue (value32 a) x) : HasValue (value64 (cvt64of32 a)) x := by
  by_cases hzero : x = 0
  · subst hzero
    obtain ⟨neg, mag, exp, hA, -⟩ := hx.exists_fin
    obtain rfl : mag = 0 := (hA ▸ hx).eq_zero_iff.1 rfl
    have hlt : packSign double neg 0 < 2 ^ 64 := double.packSign_lt neg (by decide)
    rw [cvt64of32, hA, fpConvert, roundTo_zero, result64, value64, BitVec.toNat_ofNat, Nat.mod_eq_of_lt hlt,
      hasValue_unpack_packSign double neg (FpFormat.infBits_pos proper_double), double.gridValue_zero, mul_zero]
  · have hRounded := (roundsTo_fpConvert proper_double .nearest hx hzero).result64 (.cvtS a)
    have hSingle : Representable single x := ⟨a.toNat, a.isLt, hx⟩
    exact hasValue_of_correctlyRounded proper_double hRounded hSingle.double_of_single

/-! ### The obligations -/

/-- Settles O48: each operation rounds once what it computes, in either format. -/
theorem arithmeticIsCorrectlyRounded : Obligations.ArithmeticIsCorrectlyRounded := by
  intro rm
  refine ⟨fun a b x y hx hy => ⟨fun h => ?_, fun h => ?_, fun h => ?_, fun hx0 hy0 => ?_⟩,
    fun a b x y hx hy => ⟨fun h => ?_, fun h => ?_, fun h => ?_, fun hx0 hy0 => ?_⟩⟩
  · exact (roundsTo_fpAdd proper_single rm hx hy h).result32 _
  · exact (roundsTo_fpSub proper_single rm hx hy h).result32 _
  · exact (roundsTo_fpMul proper_single rm hx hy h).result32 _
  · exact (roundsTo_fpDiv proper_single rm hx hy hx0 hy0).result32 _
  · exact (roundsTo_fpAdd proper_double rm hx hy h).result64 _
  · exact (roundsTo_fpSub proper_double rm hx hy h).result64 _
  · exact (roundsTo_fpMul proper_double rm hx hy h).result64 _
  · exact (roundsTo_fpDiv proper_double rm hx hy hx0 hy0).result64 _

/-- Settles O49: the root and the conversions each round once; the widening conversion rounds to what it was given. -/
theorem rootsAndConversionsAreCorrectlyRounded : Obligations.RootsAndConversionsAreCorrectlyRounded := by
  refine ⟨?sqrt32, ?sqrt64, ?cvtSD, fun a x => hasValue_cvt64of32, fun rm i hi _ => ⟨?fromInt32, ?fromInt64⟩⟩
  case sqrt32 => exact fun rm a x y hx hy hsq => (roundsTo_fpSqrt proper_single rm hx hy hsq).result32 _
  case sqrt64 => exact fun rm a x y hx hy hsq => (roundsTo_fpSqrt proper_double rm hx hy hsq).result64 _
  case cvtSD => exact fun rm a x hx hne => (roundsTo_fpConvert proper_single rm hx hne).result32 _
  case fromInt32 =>
    have h := correctlyRounded_fpFromInt proper_single rm hi
    have hlt : fpFromInt single rm i < 2 ^ 32 := h.1
    rwa [fromInt32, BitVec.toNat_ofNat, Nat.mod_eq_of_lt hlt]
  case fromInt64 =>
    have h := correctlyRounded_fpFromInt proper_double rm hi
    have hlt : fpFromInt double rm i < 2 ^ 64 := h.1
    rwa [fromInt64, BitVec.toNat_ofNat, Nat.mod_eq_of_lt hlt]

end Sys2Proof.Machine
end

section
/-! PROOF. The results that no rounding decides (R421, R422): NaNs, infinities and zeros, operation by operation on the values,
and then in the two formats. -/

namespace Sys2Proof.Machine

/-! ### Signs and NaNs -/

/-- The value, unless it is a NaN, has the sign. -/
def HasSign : FpValue → Bool → Prop
  | .nan, _ => True
  | .inf neg, s => neg = s
  | .fin neg _ _, s => neg = s

theorem HasSign.negate {A : FpValue} {s : Bool} (h : HasSign A s) : HasSign A.negate (!s) := by
  cases A with
  | nan => trivial
  | inf neg => exact congrArg _ h
  | fin neg mag exp => exact congrArg _ h

theorem hasSign_unpack (f : FpFormat) (bits : ℕ) : HasSign (unpack f bits) (decide (f.signBit ≤ bits)) := by
  cases h : unpack f bits with
  | nan => trivial
  | inf neg => exact unpack_sign (.inl h)
  | fin neg mag exp => exact unpack_sign (.inr ⟨mag, exp, h⟩)

theorem hasSign_value32 (a : Word) : HasSign (value32 a) (a.getLsbD 31) := by
  have h := hasSign_unpack single a.toNat
  rwa [show decide (single.signBit ≤ a.toNat) = a.getLsbD 31 from a.msb_eq_decide.symm] at h

theorem hasSign_value64 (a : Dword) : HasSign (value64 a) (a.getLsbD 63) := by
  have h := hasSign_unpack double a.toNat
  rwa [show decide (double.signBit ≤ a.toNat) = a.getLsbD 63 from a.msb_eq_decide.symm] at h

/-- An exponent field of all ones over a fraction that is not zero is a NaN. -/
theorem unpack_eq_nan {f : FpFormat} {bits : ℕ} (he : bits / 2 ^ f.fracBits % 2 ^ f.expBits = 2 ^ f.expBits - 1)
    (hm : bits % 2 ^ f.fracBits ≠ 0) : unpack f bits = .nan := by
  unfold unpack
  simp only [f.signBit_eq, Nat.mod_mul_left_div_self, Nat.mod_mul_left_mod, if_pos he, if_neg hm]

theorem IsNaN32.value {a : Word} (h : IsNaN32 a) : value32 a = .nan := by
  obtain ⟨he, hm⟩ := h
  rw [← BitVec.toNat_inj, BitVec.extractLsb'_toNat, Nat.shiftRight_eq_div_pow] at he
  rw [Ne, ← BitVec.toNat_inj, BitVec.extractLsb'_toNat, Nat.shiftRight_zero] at hm
  exact unpack_eq_nan he hm

theorem IsNaN64.value {a : Dword} (h : IsNaN64 a) : value64 a = .nan := by
  obtain ⟨he, hm⟩ := h
  rw [← BitVec.toNat_inj, BitVec.extractLsb'_toNat, Nat.shiftRight_eq_div_pow] at he
  rw [Ne, ← BitVec.toNat_inj, BitVec.extractLsb'_toNat, Nat.shiftRight_zero] at hm
  exact unpack_eq_nan he hm

/-- A fraction that is made not to be zero. -/
theorem fraction_ne_zero {w : ℕ} (hw : 0 < w) (frac : BitVec w) : (if frac = 0 then 1 else frac) ≠ 0 := by
  split
  · exact fun h => by simpa [hw.ne'] using congrArg BitVec.toNat h
  · assumption

theorem isNaN32_nanResult32 (src : NaNSource32) : IsNaN32 (Config.nanResult32 src) := by
  have hne := fraction_ne_zero (by decide) ((Config.nanRaw32 src).extractLsb' 0 23)
  unfold Config.nanResult32
  extract_lets raw frac
  refine ⟨?_, by rwa [BitVec.extractLsb'_append_eq_right]⟩
  rw [BitVec.extractLsb'_append_eq_of_le (by decide)]
  exact BitVec.extractLsb'_append_eq_right

theorem isNaN64_nanResult64 (src : NaNSource64) : IsNaN64 (Config.nanResult64 src) := by
  have hne := fraction_ne_zero (by decide) ((Config.nanRaw64 src).extractLsb' 0 52)
  unfold Config.nanResult64
  extract_lets raw frac
  refine ⟨?_, by rwa [BitVec.extractLsb'_append_eq_right]⟩
  rw [BitVec.extractLsb'_append_eq_of_le (by decide)]
  exact BitVec.extractLsb'_append_eq_right

/-! ### Invalid operations -/

section operations
variable {f : FpFormat} {rm : RoundMode} {A B : FpValue}

theorem fpAdd_invalid (h : (A = .nan ∨ B = .nan) ∨ ∃ p, A = .inf p ∧ B = .inf !p) : fpAdd f rm A B = none := by
  rcases h with (rfl | rfl) | ⟨p, rfl, rfl⟩
  · rfl
  · cases A <;> rfl
  · cases p <;> rfl

theorem fpMul_invalid
    (h : (A = .nan ∨ B = .nan) ∨ ∃ p, (A = .inf p ∧ HasValue B 0) ∨ (HasValue A 0 ∧ B = .inf p)) : fpMul f rm A B = none := by
  rcases h with (rfl | rfl) | ⟨p, ⟨rfl, hB⟩ | ⟨hA, rfl⟩⟩
  · rfl
  · cases A <;> rfl
  · obtain ⟨b, n, e, rfl, -⟩ := hB.exists_fin
    exact if_pos (hB.eq_zero_iff.1 rfl)
  · obtain ⟨a, m, e, rfl, -⟩ := hA.exists_fin
    exact if_pos (hA.eq_zero_iff.1 rfl)

theorem fpDiv_invalid (h : (A = .nan ∨ B = .nan) ∨ (HasValue A 0 ∧ HasValue B 0) ∨ ∃ p q, A = .inf p ∧ B = .inf q) :
    fpDiv f rm A B = none := by
  rcases h with (rfl | rfl) | ⟨hA, hB⟩ | ⟨p, q, rfl, rfl⟩
  · rfl
  · cases A <;> rfl
  · obtain ⟨a, m, e, rfl, -⟩ := hA.exists_fin
    obtain ⟨b, n, e', rfl, -⟩ := hB.exists_fin
    rw [fpDiv, if_pos (hB.eq_zero_iff.1 rfl), if_pos (hA.eq_zero_iff.1 rfl)]
  · rfl

theorem fpSqrt_invalid (h : A = .nan ∨ A = .inf true ∨ ∃ x < 0, HasValue A x) : fpSqrt f rm A = none := by
  rcases h with rfl | rfl | ⟨x, hx, hA⟩
  · rfl
  · rfl
  · obtain ⟨a, m, e, rfl, rfl⟩ := hA.exists_fin
    cases a with
    | true => rw [fpSqrt, if_neg (mag_ne_zero hx.ne), if_pos rfl]
    | false =>
      have : (0 : ℝ) ≤ (m : ℝ) * 2 ^ e := by positivity
      simp only [Bool.false_eq_true, if_false, one_mul] at hx
      linarith

/-! ### Infinite results -/

theorem fpAdd_inf {p : Bool} {x y : ℝ} (h : (A = .inf p ∧ (HasValue B y ∨ B = .inf p)) ∨ (HasValue A x ∧ B = .inf p)) :
    fpAdd f rm A B = some (infTo f p) := by
  rcases h with ⟨rfl, hB | rfl⟩ | ⟨hA, rfl⟩
  · obtain ⟨b, n, e, rfl, -⟩ := hB.exists_fin
    rfl
  · exact if_pos rfl
  · obtain ⟨a, m, e, rfl, -⟩ := hA.exists_fin
    rfl

theorem fpMul_inf {p q sa sb : Bool} {x : ℝ} (ha : HasSign A sa) (hb : HasSign B sb) (hx : x ≠ 0)
    (h : (A = .inf p ∧ (HasValue B x ∨ B = .inf q)) ∨ (HasValue A x ∧ B = .inf q)) :
    fpMul f rm A B = some (infTo f (sa != sb)) := by
  rcases h with ⟨rfl, hB | rfl⟩ | ⟨hA, rfl⟩
  · obtain ⟨b, n, e, rfl, -⟩ := hB.exists_fin
    obtain rfl : p = sa := ha
    obtain rfl : b = sb := hb
    exact if_neg (mt hB.eq_zero_iff.2 hx)
  · obtain rfl : p = sa := ha
    obtain rfl : q = sb := hb
    rfl
  · obtain ⟨a, m, e, rfl, -⟩ := hA.exists_fin
    obtain rfl : a = sa := ha
    obtain rfl : q = sb := hb
    exact if_neg (mt hA.eq_zero_iff.2 hx)

theorem fpDiv_inf {p sa sb : Bool} {x y : ℝ} (ha : HasSign A sa) (hb : HasSign B sb)
    (h : (A = .inf p ∧ HasValue B y) ∨ (x ≠ 0 ∧ HasValue A x ∧ HasValue B 0)) :
    fpDiv f rm A B = some (infTo f (sa != sb)) := by
  rcases h with ⟨rfl, hB⟩ | ⟨hx, hA, hB⟩
  · obtain ⟨b, n, e, rfl, -⟩ := hB.exists_fin
    obtain rfl : p = sa := ha
    obtain rfl : b = sb := hb
    rfl
  · obtain ⟨a, m, e, rfl, -⟩ := hA.exists_fin
    obtain ⟨b, n, e', rfl, -⟩ := hB.exists_fin
    obtain rfl : a = sa := ha
    obtain rfl : b = sb := hb
    rw [fpDiv, if_pos (hB.eq_zero_iff.1 rfl), if_neg (mt hA.eq_zero_iff.2 hx)]

/-! ### Zero results -/

/-- A sum is zero of two zeros, which keep a common sign, or of two unlike numbers, where the direction decides. -/
theorem fpAdd_zero {sa sb : Bool} {x y : ℝ} (ha : HasSign A sa) (hb : HasSign B sb) (hA : HasValue A x) (hB : HasValue B y)
    (h : x + y = 0) :
    fpAdd f rm A B = some (packSign f (if x = 0 ∧ sa = sb then sa else decide (rm = .down)) 0) := by
  obtain ⟨a, m, e, rfl, rfl⟩ := hA.exists_fin
  obtain ⟨b, n, e', rfl, rfl⟩ := hB.exists_fin
  obtain rfl : a = sa := ha
  obtain rfl : b = sb := hb
  have hsum : signedAt (min e e') a m e + signedAt (min e e') b n e' = 0 := by
    rw [← signedAt_add_mul] at h
    exact_mod_cast (mul_eq_zero.1 h).resolve_right (by positivity)
  have hLike : a = b → (if a then -1 else 1) * ((m : ℝ) * 2 ^ e) = 0 := by
    rintro rfl
    have hm : (0 : ℝ) ≤ (m : ℝ) * 2 ^ e := by positivity
    have hn : (0 : ℝ) ≤ (n : ℝ) * 2 ^ e' := by positivity
    cases a <;> simp only [Bool.false_eq_true, if_false, if_true] at h ⊢ <;> linarith
  have hcond : ((if a then -1 else 1) * ((m : ℝ) * 2 ^ e) = 0 ∧ a = b) ↔ a = b := ⟨And.right, fun h => ⟨hLike h, h⟩⟩
  simp only [fpAdd, hsum, if_true, Int.natAbs_zero, roundTo_zero, hcond]
  rfl

theorem fpMul_zero {sa sb : Bool} {x y : ℝ} (ha : HasSign A sa) (hb : HasSign B sb) (hA : HasValue A x) (hB : HasValue B y)
    (h : x * y = 0) : fpMul f rm A B = some (packSign f (sa != sb) 0) := by
  obtain ⟨a, m, e, rfl, -⟩ := hA.exists_fin
  obtain ⟨b, n, e', rfl, -⟩ := hB.exists_fin
  obtain rfl : a = sa := ha
  obtain rfl : b = sb := hb
  have hmn : m * n = 0 := Nat.mul_eq_zero.2 ((mul_eq_zero.1 h).imp hA.eq_zero_iff.1 hB.eq_zero_iff.1)
  rw [fpMul, hmn, roundTo_zero]

theorem fpDiv_zero {q sa sb : Bool} {x y : ℝ} (ha : HasSign A sa) (hb : HasSign B sb)
    (h : (HasValue A x ∧ B = .inf q) ∨ (y ≠ 0 ∧ HasValue A 0 ∧ HasValue B y)) :
    fpDiv f rm A B = some (packSign f (sa != sb) 0) := by
  rcases h with ⟨hA, rfl⟩ | ⟨hy, hA, hB⟩
  · obtain ⟨a, m, e, rfl, -⟩ := hA.exists_fin
    obtain rfl : a = sa := ha
    obtain rfl : q = sb := hb
    rfl
  · obtain ⟨a, m, e, rfl, -⟩ := hA.exists_fin
    obtain ⟨b, n, e', rfl, -⟩ := hB.exists_fin
    obtain rfl : a = sa := ha
    obtain rfl : b = sb := hb
    obtain rfl : m = 0 := hA.eq_zero_iff.1 rfl
    have hQuotient (k : ℕ) : stickyQuotient (0 * 2 ^ k) n = 0 := by simp [stickyQuotient]
    rw [fpDiv, if_neg (mt hB.eq_zero_iff.2 hy)]
    simp only [hQuotient, roundTo_zero]

theorem fpSqrt_zero {sa : Bool} (ha : HasSign A sa) (hA : HasValue A 0) : fpSqrt f rm A = some (packSign f sa 0) := by
  obtain ⟨a, m, e, rfl, -⟩ := hA.exists_fin
  obtain rfl : a = sa := ha
  exact if_pos (hA.eq_zero_iff.1 rfl)

theorem fpConvert_zero {sa : Bool} (ha : HasSign A sa) (hA : HasValue A 0) : fpConvert f rm A = some (packSign f sa 0) := by
  obtain ⟨a, m, e, rfl, -⟩ := hA.exists_fin
  obtain rfl : a = sa := ha
  obtain rfl : m = 0 := hA.eq_zero_iff.1 rfl
  rw [fpConvert, roundTo_zero]

theorem fpConvert_inf {p : Bool} (hA : A = .inf p) : fpConvert f rm A = some (infTo f p) := by rw [hA]; rfl

theorem fpFromInt_zero (f : FpFormat) (rm : RoundMode) : fpFromInt f rm 0 = 0 := by
  rw [fpFromInt, Int.natAbs_zero, roundTo_zero]
  rfl

/-! ### Differences, as sums with the sign of the second operand inverted (R426) -/

theorem fpSub_invalid (h : (A = .nan ∨ B = .nan) ∨ ∃ p, A = .inf p ∧ B = .inf p) : fpAdd f rm A B.negate = none := by
  refine fpAdd_invalid ?_
  rcases h with (rfl | rfl) | ⟨p, rfl, rfl⟩
  · exact .inl (.inl rfl)
  · exact .inl (.inr rfl)
  · exact .inr ⟨p, rfl, rfl⟩

theorem fpSub_inf {p : Bool} {x y : ℝ} (h : (A = .inf p ∧ (HasValue B y ∨ B = .inf !p)) ∨ (HasValue A x ∧ B = .inf !p)) :
    fpAdd f rm A B.negate = some (infTo f p) := by
  have hInf : B = .inf (!p) → B.negate = .inf p := by
    rintro rfl
    exact congrArg _ (Bool.not_not p)
  refine fpAdd_inf (x := x) (y := -y) (h.imp (And.imp_right (Or.imp (fun hB => ?_) hInf)) (And.imp_right hInf))
  exact hasValue_negate.2 (by rwa [neg_neg])

theorem fpSub_zero {sa sb : Bool} {x y : ℝ} (ha : HasSign A sa) (hb : HasSign B sb) (hA : HasValue A x) (hB : HasValue B y)
    (h : x - y = 0) :
    fpAdd f rm A B.negate = some (packSign f (if x = 0 ∧ sa = !sb then sa else decide (rm = .down)) 0) :=
  fpAdd_zero ha hb.negate hA (hasValue_negate.2 (by rwa [neg_neg])) (by linarith)

end operations

/-! ### The two formats -/

section patterns
variable {r : Option ℕ} {neg : Bool}

theorem result32_none (h : r = none) (src : NaNSource32) : result32 r src = Config.nanResult32 src := by rw [h]; rfl

theorem result64_none (h : r = none) (src : NaNSource64) : result64 r src = Config.nanResult64 src := by rw [h]; rfl

theorem result32_inf (h : r = some (infTo single neg)) (src : NaNSource32) :
    result32 r src = if neg then 0xFF800000#32 else 0x7F800000#32 := by
  rw [h]; cases neg <;> rfl

theorem result64_inf (h : r = some (infTo double neg)) (src : NaNSource64) :
    result64 r src = if neg then 0xFFF0000000000000#64 else 0x7FF0000000000000#64 := by
  rw [h]; cases neg <;> rfl

theorem result32_zero (h : r = some (packSign single neg 0)) (src : NaNSource32) :
    result32 r src = if neg then 0x80000000#32 else 0 := by
  rw [h]; cases neg <;> rfl

theorem result64_zero (h : r = some (packSign double neg 0)) (src : NaNSource64) :
    result64 r src = if neg then 0x8000000000000000#64 else 0 := by
  rw [h]; cases neg <;> rfl

end patterns

/-! ### The obligation -/

/-- Settles O50: each clause by its rule for the values, and the pattern of that result in the format. -/
theorem floatingSpecialValues : Obligations.FloatingSpecialValues := by
  refine ⟨isNaN32_nanResult32, isNaN64_nanResult64, fun rm a b => ?invalid32, fun rm a b => ?invalid64, fun rm a b => ?special32,
    fun rm a b => ?special64, fun rm a h => ?cvtSDNaN, fun a h => ?cvtDSNaN, fun rm a => ?cvtSD, fun a => ?cvtDS,
    fun rm => ?fromInt⟩
  case invalid32 =>
    intro A B nan
    have hNaN : nan → A = .nan ∨ B = .nan := Or.imp IsNaN32.value IsNaN32.value
    exact ⟨fun h => result32_none (fpAdd_invalid (h.imp_left hNaN)) _, fun h => result32_none (fpSub_invalid (h.imp_left hNaN)) _,
      fun h => result32_none (fpMul_invalid (h.imp_left hNaN)) _, fun h => result32_none (fpDiv_invalid (h.imp_left hNaN)) _,
      fun h => result32_none (fpSqrt_invalid (h.imp_left IsNaN32.value)) _⟩
  case invalid64 =>
    intro A B nan
    have hNaN : nan → A = .nan ∨ B = .nan := Or.imp IsNaN64.value IsNaN64.value
    exact ⟨fun h => result64_none (fpAdd_invalid (h.imp_left hNaN)) _, fun h => result64_none (fpSub_invalid (h.imp_left hNaN)) _,
      fun h => result64_none (fpMul_invalid (h.imp_left hNaN)) _, fun h => result64_none (fpDiv_invalid (h.imp_left hNaN)) _,
      fun h => result64_none (fpSqrt_invalid (h.imp_left IsNaN64.value)) _⟩
  case special32 =>
    have ha := hasSign_value32 a
    have hb := hasSign_value32 b
    refine ⟨fun p x h => result32_inf (fpAdd_inf h) _, fun x y hx hy h => ?add, fun p x h => result32_inf (fpSub_inf h) _,
      fun x y hx hy h => ?sub, fun p q x hx h => result32_inf (fpMul_inf ha hb hx h) _,
      fun x y hx hy h => result32_zero (fpMul_zero ha hb hx hy h) _, fun p x y h => result32_inf (fpDiv_inf ha hb h) _,
      fun q x y h => result32_zero (fpDiv_zero ha hb h) _, fun h => ?sqrtInf, fun h => result32_zero (fpSqrt_zero ha h) _⟩
    case add => exact (result32_zero (fpAdd_zero ha hb hx hy h) _).trans (by split <;> rfl)
    case sub => exact (result32_zero (fpSub_zero ha hb hx hy h) _).trans (by split <;> rfl)
    case sqrtInf => exact result32_inf (neg := false) (by rw [h]; rfl) _
  case special64 =>
    have ha := hasSign_value64 a
    have hb := hasSign_value64 b
    refine ⟨fun p x h => result64_inf (fpAdd_inf h) _, fun x y hx hy h => ?add, fun p x h => result64_inf (fpSub_inf h) _,
      fun x y hx hy h => ?sub, fun p q x hx h => result64_inf (fpMul_inf ha hb hx h) _,
      fun x y hx hy h => result64_zero (fpMul_zero ha hb hx hy h) _, fun p x y h => result64_inf (fpDiv_inf ha hb h) _,
      fun q x y h => result64_zero (fpDiv_zero ha hb h) _, fun h => ?sqrtInf, fun h => result64_zero (fpSqrt_zero ha h) _⟩
    case add => exact (result64_zero (fpAdd_zero ha hb hx hy h) _).trans (by split <;> rfl)
    case sub => exact (result64_zero (fpSub_zero ha hb hx hy h) _).trans (by split <;> rfl)
    case sqrtInf => exact result64_inf (neg := false) (by rw [h]; rfl) _
  case cvtSDNaN => exact result32_none (by rw [h.value]; rfl) _
  case cvtDSNaN => exact result64_none (by rw [h.value]; rfl) _
  case cvtSD =>
    exact ⟨fun p h => result32_inf (fpConvert_inf h) _, fun h => result32_zero (fpConvert_zero (hasSign_value64 a) h) _⟩
  case cvtDS =>
    exact ⟨fun p h => result64_inf (fpConvert_inf h) _, fun h => result64_zero (fpConvert_zero (hasSign_value32 a) h) _⟩
  case fromInt =>
    exact ⟨congrArg (BitVec.ofNat 32) (fpFromInt_zero single rm), congrArg (BitVec.ofNat 64) (fpFromInt_zero double rm)⟩

end Sys2Proof.Machine
end

section
/-! PROOF. Exception entry (R541 to R546): the fields of a word that `replaceBits` writes, Cause and the address registers after entry,
and the vector table. -/

namespace Sys2Proof.Machine

/-! ### Fields of a word -/

section fields
variable {mask new old : Word}

/-- Bit by bit, the new word inside the mask and the old one outside. -/
theorem getLsbD_replaceBits (mask new old : Word) (k : Nat) :
    (replaceBits mask new old).getLsbD k = if mask.getLsbD k then new.getLsbD k else old.getLsbD k := by
  by_cases hk : k < 32
  · simp only [replaceBits, BitVec.getLsbD_or, BitVec.getLsbD_and, BitVec.getLsbD_not, hk, decide_true, Bool.true_and]
    cases mask.getLsbD k <;> simp
  · simp [BitVec.getLsbD_of_ge _ _ (Nat.le_of_not_lt hk)]

/-- A field that the mask fills is that of the new word. -/
theorem extractLsb'_replaceBits_inside {lo n : Nat} (h : ∀ k < n, mask.getLsbD (lo + k) = true) :
    (replaceBits mask new old).extractLsb' lo n = new.extractLsb' lo n := by
  apply BitVec.eq_of_getLsbD_eq
  intro k hk
  rw [BitVec.getLsbD_extractLsb', BitVec.getLsbD_extractLsb', getLsbD_replaceBits, if_pos (h k hk)]

/-- A field that the mask leaves out is that of the old word. -/
theorem extractLsb'_replaceBits_outside {lo n : Nat} (h : ∀ k < n, mask.getLsbD (lo + k) = false) :
    (replaceBits mask new old).extractLsb' lo n = old.extractLsb' lo n := by
  apply BitVec.eq_of_getLsbD_eq
  intro k hk
  rw [BitVec.getLsbD_extractLsb', BitVec.getLsbD_extractLsb', getLsbD_replaceBits, h k hk, if_neg Bool.false_ne_true]

/-- A bit that the mask leaves out is that of the old word, when the mask's bits are those of a condition. -/
theorem getLsbD_replaceBits_outside {p : Nat → Prop} [DecidablePred p] (hm : ∀ k < 32, p k → mask.getLsbD k = false) {k : Nat}
    (hk : p k) : (replaceBits mask new old).getLsbD k = old.getLsbD k := by
  rw [getLsbD_replaceBits]
  by_cases h32 : k < 32
  · rw [hm k h32 hk, if_neg Bool.false_ne_true]
  · simp [BitVec.getLsbD_of_ge _ _ (Nat.le_of_not_lt h32)]

/-- A word of one bit. -/
theorem getLsbD_bit {j : Nat} (hj : j < 32) (k : Nat) : (BitVec.twoPow 32 j).getLsbD k = decide (k = j) := by
  simp [BitVec.getLsbD_twoPow, hj, eq_comm]

/-- A value moved to its place in a word. -/
theorem extractLsb'_setWidth_shiftLeft {n lo : Nat} (x : BitVec n) (h : lo + n ≤ 32) :
    (x.setWidth 32 <<< lo).extractLsb' lo n = x := by
  apply BitVec.eq_of_getLsbD_eq
  intro k hk
  have hlt : lo + k < 32 := by omega
  simp [hk, hlt]

/-- Fields that agree bit by bit. -/
theorem extractLsb'_congr {v w : Word} {lo n : Nat} (h : ∀ k < n, v.getLsbD (lo + k) = w.getLsbD (lo + k)) :
    v.extractLsb' lo n = w.extractLsb' lo n := by
  apply BitVec.eq_of_getLsbD_eq
  intro k hk
  rw [BitVec.getLsbD_extractLsb', BitVec.getLsbD_extractLsb', h k hk]

end fields

/-! ### Cause after entry (R541, R542, R546) -/

section cause
variable (e : Exc) (old : Word)

theorem entryCode_excCode : (entryCode e old).extractLsb' 2 5 = excCode e :=
  (extractLsb'_replaceBits_inside (by decide)).trans (extractLsb'_setWidth_shiftLeft _ (by decide))

/-- CE takes the number of an unusable coprocessor. -/
theorem entryCode_ce_unusable (n : BitVec 2) : (entryCode (.coprocessorUnusable n) old).extractLsb' 28 2 = n :=
  (extractLsb'_replaceBits_outside (by decide)).trans <|
    (extractLsb'_replaceBits_inside (by decide)).trans (extractLsb'_setWidth_shiftLeft _ (by decide))

/-- Every other exception keeps CE. -/
theorem entryCode_ce_kept (h : ∀ n, e ≠ .coprocessorUnusable n) :
    (entryCode e old).extractLsb' 28 2 = old.extractLsb' 28 2 := by
  refine (extractLsb'_replaceBits_outside (by decide)).trans ?_
  cases e with
  | coprocessorUnusable n => exact absurd rfl (h n)
  | _ => rfl

/-- ExcCode and CE apart, Cause keeps its bits. -/
theorem entryCode_getLsbD {k : Nat} (hk : k ∉ [2, 3, 4, 5, 6, 28, 29]) : (entryCode e old).getLsbD k = old.getLsbD k := by
  refine (getLsbD_replaceBits_outside (p := fun k => k ∉ [2, 3, 4, 5, 6, 28, 29]) (by decide) hk).trans ?_
  cases e with
  | coprocessorUnusable n =>
    exact getLsbD_replaceBits_outside (p := fun k => k ∉ [2, 3, 4, 5, 6, 28, 29]) (by decide) hk
  | _ => rfl

end cause

section entryCause
variable (s : State) (e : Exc)

/-- BD apart, Cause after entry is what the code and CE make of it. -/
theorem State.entryCop0_cause_getLsbD {k : Nat} (hk : k ≠ 31) :
    (s.entryCop0 e).cause.getLsbD k = (entryCode e s.cp0.cause).getLsbD k := by
  simp only [entryCop0]
  split
  · rfl
  · exact getLsbD_replaceBits_outside (p := fun k => k ≠ 31) (by decide) hk

/-- A field of Cause below BD. -/
theorem State.entryCop0_cause_field {lo n : Nat} (h : lo + n ≤ 31) :
    (s.entryCop0 e).cause.extractLsb' lo n = (entryCode e s.cp0.cause).extractLsb' lo n :=
  extractLsb'_congr fun _ _ => s.entryCop0_cause_getLsbD e (by omega)

/-- With EXL = 0, EPC and BD say where the instruction stands (R542). -/
theorem State.entryCop0_of_exl_false (h : s.exl = false) :
    (s.entryCop0 e).epc = (if s.ds then s.pc - 4 else s.pc) ∧ (s.entryCop0 e).cause.getLsbD 31 = s.ds := by
  constructor
  · simp [entryCop0, h]
  · simp only [entryCop0, h, Bool.false_eq_true, if_false, getLsbD_replaceBits]
    cases s.ds <;> rfl

/-- With EXL = 1 they are kept (R542). -/
theorem State.entryCop0_of_exl_true (h : s.exl = true) :
    (s.entryCop0 e).epc = s.cp0.epc ∧ (s.entryCop0 e).cause.getLsbD 31 = s.cp0.cause.getLsbD 31 := by
  simp only [entryCop0, h, if_true, true_and]
  exact entryCode_getLsbD e _ (by decide)

/-- Entry sets EXL and no other bit of Status (R542). -/
theorem State.exceptionEntry_statusBit (k : Nat) : (s.exceptionEntry e).statusBit k = (s.statusBit k || decide (k = 1)) := by
  have hEXL : (0x00000002#32).getLsbD k = decide (k = 1) := getLsbD_bit (j := 1) (by decide) k
  simp only [statusBit, exceptionEntry_cp0, entryCop0, BitVec.getLsbD_or, hEXL]

end entryCause

/-! ### The address registers after entry (R544, R545) -/

section addressRegisters
variable (e : Exc) (old : Word)

/-- BadVPN2 takes bits 31 to 13 of the missing address. -/
theorem entryContext_tlbMiss (dir : Direction) (va : Word) :
    (entryContext (.tlbMiss dir va) old).extractLsb' 4 19 = va.extractLsb' 13 19 := by
  refine (extractLsb'_replaceBits_inside (by decide)).trans ?_
  apply BitVec.eq_of_getLsbD_eq
  intro k hk
  rw [BitVec.getLsbD_extractLsb', BitVec.getLsbD_extractLsb', BitVec.getLsbD_ushiftRight, show 9 + (4 + k) = 13 + k by omega]

/-- VPN2 takes bits 31 to 13 of the missing address. -/
theorem entryEntryHi_tlbMiss (dir : Direction) (va : Word) :
    (entryEntryHi (.tlbMiss dir va) old).extractLsb' 13 19 = va.extractLsb' 13 19 :=
  extractLsb'_replaceBits_inside (by decide)

/-- BadVPN2 apart, Context keeps its bits. -/
theorem entryContext_getLsbD {k : Nat} (hk : k < 4 ∨ 22 < k) : (entryContext e old).getLsbD k = old.getLsbD k := by
  cases e with
  | tlbMiss dir va => exact getLsbD_replaceBits_outside (p := fun k => k < 4 ∨ 22 < k) (by decide) hk
  | _ => rfl

/-- VPN2 apart, EntryHi keeps its bits. -/
theorem entryEntryHi_getLsbD {k : Nat} (hk : k < 13) : (entryEntryHi e old).getLsbD k = old.getLsbD k := by
  cases e with
  | tlbMiss dir va => exact getLsbD_replaceBits_outside (p := fun k => k < 13) (by decide) hk
  | _ => rfl

end addressRegisters

/-- Settles O11: each register by its rule, and the rest by `sameButEntry_exceptionEntry`. -/
theorem exceptionEntryWrites : Obligations.ExceptionEntryWrites := by
  intro s e t
  have hField {lo n : Nat} (h : lo + n ≤ 31) := s.entryCop0_cause_field e h
  refine ⟨?address, fun k hk => entryContext_getLsbD e _ hk, fun k hk => entryEntryHi_getLsbD e _ hk,
    (hField (by decide)).trans (entryCode_excCode e _), ?ce, fun k hk => ?cause, s.entryCop0_of_exl_false e,
    s.entryCop0_of_exl_true e, ?exl, fun k hk => ?status, rfl, rfl, rfl, sameButEntry_exceptionEntry s e⟩
  case address =>
    cases e with
    | tlbMiss dir va => exact ⟨rfl, entryContext_tlbMiss _ dir va, entryEntryHi_tlbMiss _ dir va⟩
    | _ => exact ⟨rfl, rfl, rfl⟩
  case ce =>
    cases e with
    | coprocessorUnusable n => exact (hField (by decide)).trans (entryCode_ce_unusable _ n)
    | _ => exact (hField (by decide)).trans (entryCode_ce_kept _ _ fun _ => by simp)
  case cause =>
    have h31 : k ≠ 31 := by rintro rfl; exact hk (by decide)
    have hFields : [2, 3, 4, 5, 6, 28, 29] ⊆ [2, 3, 4, 5, 6, 28, 29, 31] := by decide
    exact (s.entryCop0_cause_getLsbD e h31).trans (entryCode_getLsbD e _ fun h => hk (hFields h))
  case exl => simp [t, State.exl, State.exceptionEntry_statusBit]
  case status => exact (s.exceptionEntry_statusBit e k).trans (by rw [decide_eq_false hk, Bool.or_false]; rfl)

/-! ### The vector table (R543) -/

/-- An entry covers an address when the tags agree under its mask (R90). -/
theorem TlbEntry.covers_eq_false_iff {t : TlbEntry} {va : Word} :
    t.covers va = false ↔ va.extractLsb' 13 19 &&& ~~~t.mask.setWidth 19 ≠ t.vpn2 &&& ~~~t.mask.setWidth 19 := by
  simp [covers, tagMask]

/-- A miss goes to the refill vector when no slot covers the address (R542). -/
theorem State.refillMiss_iff {s : State} {e : Exc} : s.refillMiss e = true ↔
    ∃ dir va, e = .tlbMiss dir va ∧ ∀ k : BitVec 5, (s.readTlb k).covers va = false := by
  cases e with
  | tlbMiss dir va =>
    simp only [refillMiss, List.all_eq_true, State.mem_tlb, forall_exists_index, forall_apply_eq_imp_iff, Bool.not_eq_true']
    exact ⟨fun h => ⟨dir, va, rfl, h⟩, by rintro ⟨_, _, ⟨⟩, h⟩; exact h⟩
  | _ => simp [refillMiss]

/-- The refill vector and the general one, each in its two places (R543). -/
theorem State.entryVector_eq (s : State) (e : Exc) : s.entryVector e =
    if s.exl = false ∧ s.refillMiss e = true then (if s.bev then 0xBFC00200#32 else 0x80000000#32)
    else (if s.bev then 0xBFC00380#32 else 0x80000180#32) := by
  unfold entryVector
  cases s.bev <;> cases s.exl <;> cases s.refillMiss e <;> rfl

/-- Settles O12: the codes by the table of `excCode`, the vectors by `State.entryVector_eq`. -/
theorem exceptionCodesAndVectors : Obligations.ExceptionCodesAndVectors := by
  refine ⟨⟨rfl, fun _ => rfl, fun _ => rfl, fun _ => rfl, fun _ => rfl, fun _ => rfl, fun _ => rfl, rfl, rfl, fun _ => rfl, rfl,
    rfl⟩, fun s e => ?_⟩
  simp only [← TlbEntry.covers_eq_false_iff, ← State.refillMiss_iff, State.exceptionEntry_pc, State.entryVector_eq]
  refine ⟨fun h => if_pos h, fun h => if_neg h, ?_⟩
  split <;> split <;> rfl

end Sys2Proof.Machine
end

section
/-! PROOF. The boundary of a step and the timer: the interrupt condition (R558), the delivery of due events (R564, R565), and the match
of Count with Compare (R562, R563). -/

namespace Sys2Proof.Machine

/-! ### Interrupts (R551, R558) -/

/-- Two fields have a bit in common. -/
theorem extractLsb'_and_ne_zero_iff {v w : Word} {lo n : Nat} :
    v.extractLsb' lo n &&& w.extractLsb' lo n ≠ 0 ↔
      ∃ k, lo ≤ k ∧ k < lo + n ∧ v.getLsbD k = true ∧ w.getLsbD k = true := by
  constructor
  · intro h
    by_contra hNone
    refine h (BitVec.eq_of_getLsbD_eq fun k hk => ?_)
    rw [BitVec.getLsbD_and, BitVec.getLsbD_extractLsb', BitVec.getLsbD_extractLsb', BitVec.ofNat_eq_ofNat, BitVec.getLsbD_zero,
      Bool.eq_false_iff]
    intro hk'
    simp only [Bool.and_eq_true] at hk'
    exact hNone ⟨lo + k, by omega, by omega, hk'.1.2, hk'.2.2⟩
  · rintro ⟨k, hlo, hhi, hv, hw⟩ h
    have hBit := congrArg (fun x : BitVec n => x.getLsbD (k - lo)) h
    have hn : k - lo < n := by omega
    simp [hn, Nat.add_sub_cancel' hlo, hv, hw] at hBit

/-- `InterruptEnabledAndPending()` bit by bit (R558). -/
theorem State.interruptPending_iff (s : State) : s.interruptPending = true ↔
    s.cp0.status.getLsbD 0 = true ∧ s.cp0.status.getLsbD 1 = false ∧ s.cp0.status.getLsbD 2 = false ∧
      ∃ k, 8 ≤ k ∧ k ≤ 15 ∧ s.cp0.cause.getLsbD k = true ∧ s.cp0.status.getLsbD k = true := by
  simp only [interruptPending, ie, exl, erl, statusBit, Bool.and_eq_true, Bool.not_eq_true', bne_iff_ne,
    extractLsb'_and_ne_zero_iff, Nat.lt_succ_iff, and_assoc]

/-- An enabled pending interrupt is taken at the boundary and ends the step (R551, R565). -/
theorem step_of_interrupt {s : State} (hs : s.stop = false) (hi : s.deliverEvents.interruptPending = true) :
    step s = .next (s.deliverEvents.exceptionEntry .interrupt) := by
  simp [step, hs, boundaryAndRun, hi]

/-- Settles O8: the condition, and the branch of the boundary that it selects. -/
theorem interruptEndsTheStep : Obligations.InterruptEndsTheStep :=
  ⟨State.interruptPending_iff, fun _ => step_of_interrupt⟩

/-! ### The order of delivery (R565) -/

/-- The order in which due events are delivered is that of the stable insertion sort. -/
theorem sortByDeadline_eq_insertionSort (evs : List Event) :
    sortByDeadline evs = evs.insertionSort fun a b => a.deadline ≤ b.deadline := by
  have hInsert (ev : Event) (l : List Event) :
      insertByDeadline ev l = l.orderedInsert (fun a b => a.deadline ≤ b.deadline) ev := by
    induction l with
    | nil => rfl
    | cons o rest ih => rw [insertByDeadline, List.orderedInsert_cons, ih]
  induction evs with
  | nil => rfl
  | cons ev rest ih => rw [List.insertionSort_cons, ← ih, ← hInsert]; rfl

theorem perm_sortByDeadline (evs : List Event) : (sortByDeadline evs).Perm evs := by
  rw [sortByDeadline_eq_insertionSort]
  exact List.perm_insertionSort _ _

theorem total_deadline : Std.Total fun a b : Event => a.deadline ≤ b.deadline := ⟨fun a b => Nat.le_total a.deadline b.deadline⟩

theorem isTrans_deadline : IsTrans Event fun a b => a.deadline ≤ b.deadline := ⟨fun _ _ _ => Nat.le_trans⟩

theorem pairwise_sortByDeadline (evs : List Event) :
    (sortByDeadline evs).Pairwise fun a b => a.deadline ≤ b.deadline := by
  have := total_deadline
  have := isTrans_deadline
  rw [sortByDeadline_eq_insertionSort]
  exact List.pairwise_insertionSort _ _

/-- Events of one deadline keep the order in which they were scheduled: they are sorted as they are, so that they are a sublist of the
sorted events, and there are no others of their deadline. -/
theorem filter_sortByDeadline (evs : List Event) (d : Nat) :
    (sortByDeadline evs).filter (fun ev => ev.deadline == d) = evs.filter (fun ev => ev.deadline == d) := by
  have := total_deadline
  have := isTrans_deadline
  have hSame : (evs.filter fun ev => ev.deadline == d).Pairwise fun a b => a.deadline ≤ b.deadline :=
    List.pairwise_of_forall_mem_list fun a ha b hb => by
      simp only [List.mem_filter, beq_iff_eq] at ha hb
      omega
  have hSub : List.Sublist (evs.filter fun ev => ev.deadline == d) (sortByDeadline evs) := by
    rw [sortByDeadline_eq_insertionSort]
    exact List.sublist_insertionSort hSame List.filter_sublist
  have hFilter := hSub.filter fun ev => ev.deadline == d
  simp only [List.filter_filter, Bool.and_self] at hFilter
  exact (hFilter.eq_of_length ((perm_sortByDeadline evs).filter _).length_eq.symm).symm

/-! ### What the events do to Cause (R565) -/

/-- An event sets and clears its lines of `Cause[14:10]`. -/
theorem Event.apply_lines (c : Word) (ev : Event) :
    (Event.apply c ev).extractLsb' 10 5 = (c.extractLsb' 10 5 ||| ev.set) &&& ~~~ev.clear := by
  apply BitVec.eq_of_getLsbD_eq
  intro k hk
  have hlt : 10 + k < 32 := by omega
  simp [Event.apply, hk, hlt]

/-- An event leaves every other bit of Cause. -/
theorem Event.apply_getLsbD (c : Word) (ev : Event) {k : Nat} (hk : k < 10 ∨ 14 < k) :
    (Event.apply c ev).getLsbD k = c.getLsbD k := by
  have hOff (l : BitVec 5) : (l.setWidth 32 <<< 10).getLsbD k = false := by
    rcases hk with hk | hk
    · simp [hk]
    · simp [BitVec.getLsbD_of_ge l (k - 10) (by omega)]
  by_cases h32 : k < 32
  · simp only [Event.apply, BitVec.getLsbD_and, BitVec.getLsbD_or, BitVec.getLsbD_not, hOff, h32]
    simp
  · simp [BitVec.getLsbD_of_ge _ _ (Nat.le_of_not_lt h32)]

theorem foldl_apply_lines (l : List Event) (c : Word) : (l.foldl Event.apply c).extractLsb' 10 5 =
    l.foldl (fun c ev => (c ||| ev.set) &&& ~~~ev.clear) (c.extractLsb' 10 5) := by
  induction l generalizing c with
  | nil => rfl
  | cons ev rest ih => rw [List.foldl_cons, List.foldl_cons, ih, Event.apply_lines]

theorem foldl_apply_getLsbD (l : List Event) (c : Word) {k : Nat} (hk : k < 10 ∨ 14 < k) :
    (l.foldl Event.apply c).getLsbD k = c.getLsbD k := by
  induction l generalizing c with
  | nil => rfl
  | cons ev rest ih => rw [List.foldl_cons, ih, Event.apply_getLsbD c ev hk]

/-- Settles O9: the due events in the order of `sortByDeadline`, applied one after the other. -/
theorem dueEventsAreDeliveredInOrder : Obligations.DueEventsAreDeliveredInOrder := by
  intro s due t
  refine ⟨⟨sortByDeadline due, perm_sortByDeadline due, pairwise_sortByDeadline due, filter_sortByDeadline due,
    foldl_apply_lines _ _⟩, fun k hk => foldl_apply_getLsbD _ _ hk, ?queue, rfl⟩
  case queue =>
    refine List.filter_congr fun ev _ => ?_
    rw [← decide_not, decide_eq_decide]
    exact not_le

/-! ### The timer (R562, R563) -/

/-- Count takes the value of Compare within `n` increments exactly when the way to it is not longer. -/
theorem countReaches_iff (count compare : Word) (n : Nat) : (compare - count - 1).toNat < n ↔
    ∃ j, 1 ≤ j ∧ j ≤ n ∧ (count.toNat + j) % 2 ^ 32 = compare.toNat := by
  have hWay : (compare - count - 1).toNat = (compare.toNat + 2 ^ 32 - count.toNat - 1 + 2 ^ 32) % 2 ^ 32 := by
    bv_omega
  constructor
  · intro h
    exact ⟨(compare - count - 1).toNat + 1, by omega, by omega, by omega⟩
  · rintro ⟨j, h1, hn, hj⟩
    omega

/-- IP7 after an advance of time (R563). -/
theorem State.advanceTime_cause_getLsbD (s : State) (k : Nat) : s.advanceTime.cp0.cause.getLsbD k =
    (s.cp0.cause.getLsbD k ||
      decide (k = 15 ∧ (s.cp0.compare - s.cp0.count - 1).toNat < Config.countPerOp)) := by
  have hIP7 : (0x00008000#32).getLsbD k = decide (k = 15) := getLsbD_bit (j := 15) (by decide) k
  simp only [advanceTime]
  split
  case isTrue h => simp only [BitVec.getLsbD_or, hIP7, h, and_true]
  case isFalse h => rw [decide_eq_false fun hk => h hk.2, Bool.or_false]

/-- Settles O10: the sum on Count, and IP7 by `countReaches_iff`. -/
theorem timerMatchSetsIP7 : Obligations.TimerMatchSetsIP7 := by
  intro s t
  refine ⟨?count, rfl, ?ip7, fun k hk => ?others, rfl⟩
  case count => simp [t, State.advanceTime]
  case ip7 =>
    rw [State.advanceTime_cause_getLsbD, ← countReaches_iff]
    simp
  case others => simp [t, State.advanceTime_cause_getLsbD, hk]

end Sys2Proof.Machine
end

section
/-! PROOF. The reset input (R600 to R604), and the ten worked encodings. -/

namespace Sys2Proof.Machine

/-! ### Reset (R601) -/

/-- The Status bits that reset defines (R601): ERL and BEV are 1, SR, TS and RP are 0. -/
theorem getLsbD_resetStatus (free : Word) : (resetStatus free).getLsbD 2 = true ∧ (resetStatus free).getLsbD 22 = true ∧
    (resetStatus free).getLsbD 20 = false ∧ (resetStatus free).getLsbD 21 = false ∧ (resetStatus free).getLsbD 27 = false := by
  simp only [resetStatus, getLsbD_replaceBits]
  exact ⟨rfl, rfl, rfl, rfl, rfl⟩

/-- Register 0 reads as zero (R22). -/
theorem State.readX_zero (s : State) : s.readX 0 = 0 := if_pos rfl

/-- ERL = 1 is kernel mode without interrupts (R558, R560, R601). -/
theorem State.of_erl {u : State} (h : u.erl = true) :
    u.kernelMode = true ∧ u.interruptPending = false ∧ u.cop0Usable = true := by
  have hKernel : u.kernelMode = true := by rw [kernelMode, h, Bool.or_true, Bool.true_or]
  refine ⟨hKernel, ?_, by rw [cop0Usable, hKernel, Bool.true_or]⟩
  simp [interruptPending, h]

/-- Settles O59: the fields by the reset's own writes, Status by `getLsbD_resetStatus`. -/
theorem resetValues : Obligations.ResetValues := by
  refine ⟨⟨rfl, rfl, rfl, ?erl, ?bev, ?sr, ?ts, ?rp, rfl, rfl, rfl, rfl, State.readX_zero _, rfl, rfl, rfl⟩, fun s f => ?input,
    fun u => State.of_erl⟩
  case erl | bev | sr | ts | rp => decide
  case input =>
    obtain ⟨hERL, hBEV, hSR, hTS, hRP⟩ := getLsbD_resetStatus f.cp0.status
    exact ⟨rfl, rfl, rfl, hERL, hBEV, hSR, hTS, hRP, rfl, rfl, rfl, rfl, State.readX_zero _, rfl, rfl, rfl⟩

/-- Settles O58: memory is empty after reset, and the reset input does not name it. -/
theorem resetMeetsTheInvariants : Obligations.ResetMeetsTheInvariants := by
  refine ⟨⟨rfl, ?inRange, ?reserved, fun _ => rfl⟩, fun s f => ⟨fun _ => rfl, rfl, fun _ => rfl, id, id⟩⟩
  case inRange => exact List.forall_mem_nil _
  case reserved =>
    unfold Cop0.reservedZero
    decide

/-! ### Ten words -/

/-- Settles O4: `decodeWord` at ten words. -/
theorem sampleWordsDecode : Obligations.SampleWordsDecode :=
  ⟨rfl, rfl, rfl, rfl, rfl, rfl, rfl, rfl, rfl, rfl⟩

end Sys2Proof.Machine
end

section
/-! PROOF. A data access that cannot be translated (R83, R84, R98, R544): every load and store ends as its translation does. -/

namespace Sys2Proof.Machine

/-! ### The shapes of the loads and stores -/

/-- The outcome of an instruction whose translation does not give an address: it raises, or refuses (R540). -/
inductive Untranslated (s : State) : Access Word → Result → Prop where
  | raises (e : Exc) : Untranslated s (.raise e) (raise s e)
  | refuses (c : Refusal) : Untranslated s (.refuse c) (.refused c)

section shapes
variable {s : State} {va : Word} {n : Nat} {r : Result}

theorem loadAny_untranslated (h : Untranslated s (s.translate .load va) r) (k : Dword → State → Result) :
    loadAny s va n k = r := by
  generalize ha : s.translate .load va = a at h
  cases h <;> simp only [loadAny, State.memRead, ha, withAccess]

theorem withMemWrite_untranslated (h : Untranslated s (s.translate .store va) r) (v : Dword) (k : State → Result) :
    withAccess s (s.memWrite va n v) k = r := by
  generalize ha : s.translate .store va = a at h
  cases h <;> simp only [State.memWrite, ha, withAccess]

theorem storeAny_untranslated (h : Untranslated s (s.translate .store va) r) (v : Dword) : storeAny s va n v = r :=
  withMemWrite_untranslated h v finish

variable (ha : va.toNat % n = 0)
include ha

theorem loadAt_untranslated (h : Untranslated s (s.translate .load va) r) (k : Dword → State → Result) :
    loadAt s va n k = r :=
  (whenAligned_aligned (alignedTo_eq_true ha) _ _).trans (loadAny_untranslated h k)

theorem storeAt_untranslated (h : Untranslated s (s.translate .store va) r) (v : Dword) (k : State → Result) :
    storeAt s va n v k = r :=
  (whenAligned_aligned (alignedTo_eq_true ha) _ _).trans (withMemWrite_untranslated h v k)

/-- SC and SCD translate only with LLbit set (R292, R293). -/
theorem storeConditional_untranslated (hl : s.llbit = true) (h : Untranslated s (s.translate .store va) r) (rt : RegNum) :
    storeConditional s rt va n = r :=
  (whenAligned_aligned (alignedTo_eq_true ha) _ _).trans ((if_pos hl).trans (withMemWrite_untranslated h _ _))

end shapes

/-! ### The loads and stores, by the address each presents -/

section instructions
variable {s : State} {b r : RegNum} {imm : Half} {out : Result}

/-- The loads that present the effective address. -/
structure LoadsEnd (s : State) (b r : RegNum) (imm : Half) (out : Result) : Prop where
  byte : exec (.lb b r imm) s = out ∧ exec (.lbu b r imm) s = out
  half : (s.effAddr b imm).toNat % 2 = 0 → exec (.lh b r imm) s = out ∧ exec (.lhu b r imm) s = out
  word : (s.effAddr b imm).toNat % 4 = 0 → exec (.lw b r imm) s = out ∧ exec (.lwu b r imm) s = out ∧
    exec (.ll b r imm) s = out ∧ (s.cu1 = true → exec (.lwc1 b r imm) s = out)
  dword : (s.effAddr b imm).toNat % 8 = 0 → exec (.ld b r imm) s = out ∧ exec (.lld b r imm) s = out ∧
    (s.cu1 = true → exec (.ldc1 b r imm) s = out)

/-- The stores that present the effective address; of SDC1 the operand is valid (R554). -/
structure StoresEnd (s : State) (b r : RegNum) (imm : Half) (out : Result) : Prop where
  byte : exec (.sb b r imm) s = out ∧ exec (.swl b r imm) s = out ∧ exec (.sdl b r imm) s = out
  half : (s.effAddr b imm).toNat % 2 = 0 → exec (.sh b r imm) s = out
  word : (s.effAddr b imm).toNat % 4 = 0 → exec (.sw b r imm) s = out ∧ (s.llbit = true → exec (.sc b r imm) s = out) ∧
    (s.cu1 = true → exec (.swc1 b r imm) s = out)
  dword : (s.effAddr b imm).toNat % 8 = 0 → exec (.sd b r imm) s = out ∧ (s.llbit = true → exec (.scd b r imm) s = out) ∧
    (s.cu1 = true → s.validD r = true → exec (.sdc1 b r imm) s = out)

theorem loads_untranslated (h : Untranslated s (s.translate .load (s.effAddr b imm)) out) : LoadsEnd s b r imm out where
  byte := ⟨loadAt_untranslated (Nat.mod_one _) h _, loadAt_untranslated (Nat.mod_one _) h _⟩
  half ha := ⟨loadAt_untranslated ha h _, loadAt_untranslated ha h _⟩
  word ha := ⟨loadAt_untranslated ha h _, loadAt_untranslated ha h _, loadAt_untranslated ha h _,
    fun hu => (whenCop1_usable hu _).trans (loadAt_untranslated ha h _)⟩
  dword ha := ⟨loadAt_untranslated ha h _, loadAt_untranslated ha h _,
    fun hu => (whenCop1_usable hu _).trans (loadAt_untranslated ha h _)⟩

theorem stores_untranslated (h : Untranslated s (s.translate .store (s.effAddr b imm)) out) : StoresEnd s b r imm out where
  byte := ⟨storeAt_untranslated (Nat.mod_one _) h _ _, storeAny_untranslated h _, storeAny_untranslated h _⟩
  half ha := storeAt_untranslated ha h _ _
  word ha := ⟨storeAt_untranslated ha h _ _, fun hl => storeConditional_untranslated ha hl h r,
    fun hu => (whenCop1_usable hu _).trans (storeAt_untranslated ha h _ _)⟩
  dword ha := ⟨storeAt_untranslated ha h _ _, fun hl => storeConditional_untranslated ha hl h r,
    fun hu hd => (exec_sdc1_valid hu hd ha).trans (storeAny_untranslated h _)⟩

theorem wordLoads_untranslated (h : Untranslated s (s.translate .load (wordBase (s.effAddr b imm))) out) :
    exec (.lwl b r imm) s = out ∧ exec (.lwr b r imm) s = out :=
  ⟨by rw [exec, execLwl, loadAny_untranslated h], by rw [exec, execLwr, loadAny_untranslated h]⟩

theorem dwordLoads_untranslated (h : Untranslated s (s.translate .load (dwordBase (s.effAddr b imm))) out) :
    exec (.ldl b r imm) s = out ∧ exec (.ldr b r imm) s = out :=
  ⟨by rw [exec, execLdl, loadAny_untranslated h], by rw [exec, execLdr, loadAny_untranslated h]⟩

theorem exec_swr_untranslated (h : Untranslated s (s.translate .store (wordBase (s.effAddr b imm))) out) :
    exec (.swr b r imm) s = out := storeAny_untranslated h _

theorem exec_sdr_untranslated (h : Untranslated s (s.translate .store (dwordBase (s.effAddr b imm))) out) :
    exec (.sdr b r imm) s = out := storeAny_untranslated h _

end instructions

/-! ### Translations that give no address -/

theorem Untranslated.of_raise {s : State} {dir : Direction} {va : Word} {e : Exc} (h : s.translate dir va = .raise e) :
    Untranslated s (s.translate dir va) (raise s e) := by
  rw [h]
  exact .raises e

/-- With a TLB that is not consistent no mapped address is translated (R98). -/
theorem Untranslated.of_inconsistent {s : State} {va : Word} (hc : tlbConsistent s.tlb = false) (hw : inWindow va = false)
    (dir : Direction) : Untranslated s (s.translate dir va) (.refused .tlbInconsistent) := by
  have hRefuse : s.translate dir va = .refuse .tlbInconsistent := by simp [State.translate, hw, hc]
  rw [hRefuse]
  exact .refuses _

/-- The aligned word and doubleword of an address lie in the window exactly when it does. -/
theorem inWindow_wordBase (va : Word) : inWindow (wordBase va) = inWindow va := by
  rw [inWindow, wordBase, BitVec.extractLsb'_and, show (0xFFFFFFFC#32).extractLsb' 30 2 = BitVec.allOnes 2 from rfl,
    BitVec.and_allOnes, inWindow]

theorem inWindow_dwordBase (va : Word) : inWindow (dwordBase va) = inWindow va := by
  rw [inWindow, dwordBase, BitVec.extractLsb'_and, show (0xFFFFFFF8#32).extractLsb' 30 2 = BitVec.allOnes 2 from rfl,
    BitVec.and_allOnes, inWindow]

/-- Settles O24: every access ends as the translation of the address it presents, which raises the miss or refuses. -/
theorem dataMissRaises : Obligations.DataMissRaises := by
  intro s b r imm ea misses
  refine ⟨fun h => ?loads, fun h => wordLoads_untranslated (.of_raise h), fun h => dwordLoads_untranslated (.of_raise h),
    fun h => ?stores, fun h => exec_swr_untranslated (.of_raise h), fun h => exec_sdr_untranslated (.of_raise h),
    fun hc hw => ?refusals⟩
  case loads =>
    obtain ⟨⟨hLb, hLbu⟩, hHalf, hWord, hDword⟩ := loads_untranslated (r := r) (.of_raise h)
    exact ⟨hLb, hLbu, hHalf, hWord, hDword⟩
  case stores =>
    obtain ⟨⟨hSb, hSwl, hSdl⟩, hHalf, hWord, hDword⟩ := stores_untranslated (r := r) (.of_raise h)
    exact ⟨hSb, hSwl, hSdl, hHalf, hWord, hDword⟩
  case refusals =>
    intro refuses
    have hWordBase : inWindow (wordBase ea) = false := (inWindow_wordBase ea).trans hw
    have hDwordBase : inWindow (dwordBase ea) = false := (inWindow_dwordBase ea).trans hw
    obtain ⟨⟨hLb, hLbu⟩, hLoadHalf, hLoadWord, hLoadDword⟩ := loads_untranslated (r := r) (.of_inconsistent hc hw .load)
    obtain ⟨⟨hSb, hSwl, hSdl⟩, hStoreHalf, hStoreWord, hStoreDword⟩ :=
      stores_untranslated (r := r) (.of_inconsistent hc hw .store)
    obtain ⟨hLwl, hLwr⟩ := wordLoads_untranslated (r := r) (.of_inconsistent hc hWordBase .load)
    obtain ⟨hLdl, hLdr⟩ := dwordLoads_untranslated (r := r) (.of_inconsistent hc hDwordBase .load)
    have hSwr := exec_swr_untranslated (r := r) (.of_inconsistent hc hWordBase .store)
    have hSdr := exec_sdr_untranslated (r := r) (.of_inconsistent hc hDwordBase .store)
    refine ⟨?any, fun ha => ?half, fun ha => ?word, fun ha => ?dword⟩
    case any =>
      simp only [List.forall_mem_cons, List.not_mem_nil, false_imp_iff, implies_true, and_true]
      exact ⟨hLb, hLbu, hLwl, hLwr, hLdl, hLdr, hSb, hSwl, hSwr, hSdl, hSdr⟩
    case half => exact ⟨(hLoadHalf ha).1, (hLoadHalf ha).2, hStoreHalf ha⟩
    case word =>
      obtain ⟨hLw, hLwu, hLl, hLwc1⟩ := hLoadWord ha
      obtain ⟨hSw, hSc, hSwc1⟩ := hStoreWord ha
      exact ⟨hLw, hLwu, hLl, hSw, hSc, fun hu => ⟨hLwc1 hu, hSwc1 hu⟩⟩
    case dword =>
      obtain ⟨hLd, hLld, hLdc1⟩ := hLoadDword ha
      obtain ⟨hSd, hScd, hSdc1⟩ := hStoreDword ha
      exact ⟨hLd, hLld, hSd, hScd, hLdc1, hSdc1⟩

end Sys2Proof.Machine
end

section
/-! PROOF. Two statements over all instructions: what an instruction does to the system state where COP0 is not usable (R561), and which
instructions refuse in a delay slot (R624). -/

namespace Sys2Proof.Machine

/-! ### The system state (R561) -/

/-- Settles O60: of the states an instruction can answer, those with another TLB or other COP0 registers are exception entries, or need
COP0 usable. -/
theorem userModeCannotTouchTheSystem : Obligations.UserModeCannotTouchTheSystem := by
  intro i s t hUser h
  have hNotUsable : ¬s.cop0Usable = true := Bool.eq_false_iff.1 hUser
  cases exec_effect h with
  | entry e => exact ⟨rfl, .inr ⟨e, rfl⟩⟩
  | ret hu _ => exact absurd hu hNotUsable
  | tlb _ hu _ => exact absurd hu hNotUsable
  | cop0 _ hu _ => exact absurd hu hNotUsable
  | status _ hu _ => exact absurd hu hNotUsable
  | _ => exact ⟨by simp, .inl (by simp)⟩

/-! ### What cannot refuse for the delay slot -/

/-- The outcome is not the refusal of R624. -/
structure NotForbidden (r : Result) : Prop where
  ne : r ≠ .refused .branchInDelaySlot

section endings
variable {s : State}

theorem notForbidden_next (t : State) : NotForbidden (.next t) := ⟨nofun⟩

theorem notForbidden_raise (e : Exc) : NotForbidden (raise s e) := ⟨nofun⟩

theorem notForbidden_halt (c : HaltCause) : NotForbidden (halt c) := ⟨nofun⟩

theorem notForbidden_finish : NotForbidden (finish s) := ⟨nofun⟩

theorem notForbidden_writeBack (rd : RegNum) (v : Dword) : NotForbidden (writeBack s rd v) := notForbidden_finish

theorem notForbidden_writeOrOverflow (rd : RegNum) (v : Option Dword) : NotForbidden (writeOrOverflow s rd v) := by
  cases v with
  | some r => exact notForbidden_writeBack rd r
  | none => exact notForbidden_raise _

theorem notForbidden_trapIf (c : Bool) : NotForbidden (trapIf s c) := by
  cases c with
  | true => exact notForbidden_raise _
  | false => exact notForbidden_finish

end endings

/-! ### The checks -/

section checks
variable {s : State} {k : Result} (hk : NotForbidden k)
include hk

theorem notForbidden_whenCop0 : NotForbidden (whenCop0 s k) := by
  unfold whenCop0
  split
  · exact hk
  · exact notForbidden_raise _

theorem notForbidden_whenCop1 : NotForbidden (whenCop1 s k) := by
  unfold whenCop1
  split
  · exact hk
  · exact notForbidden_raise _

theorem notForbidden_whenD (i : RegNum) : NotForbidden (whenD s i k) := by
  unfold whenD
  split
  · exact hk
  · exact ⟨nofun⟩

theorem notForbidden_whenAligned (dir : Direction) (ea : Word) (n : Nat) : NotForbidden (whenAligned s dir ea n k) := by
  unfold whenAligned
  split
  · exact hk
  · exact notForbidden_raise _

end checks

/-! ### Memory -/

/-- Translation refuses for the TLB alone (R98). -/
theorem State.translate_refuse {s : State} {dir : Direction} {va : Word} {c : Refusal} (h : s.translate dir va = .refuse c) :
    c = .tlbInconsistent := by
  unfold State.translate at h
  split at h
  · cases h
  · split at h
    · split at h <;> cases h
    · cases h
      rfl

section memory
variable {s : State} (va : Word) (n : Nat)

theorem notForbidden_loadAny {k : Dword → State → Result} (hk : ∀ v u, NotForbidden (k v u)) :
    NotForbidden (loadAny s va n k) := by
  unfold loadAny State.memRead
  cases h : s.translate .load va with
  | ok pa => exact hk _ _
  | raise e => exact notForbidden_raise e
  | refuse c =>
    rw [State.translate_refuse h]
    exact ⟨nofun⟩

theorem notForbidden_loadAt {k : Dword → State → Result} (hk : ∀ v u, NotForbidden (k v u)) :
    NotForbidden (loadAt s va n k) :=
  notForbidden_whenAligned (notForbidden_loadAny va n hk) _ _ _

theorem notForbidden_withMemWrite (v : Dword) {k : State → Result} (hk : ∀ u, NotForbidden (k u)) :
    NotForbidden (withAccess s (s.memWrite va n v) k) := by
  unfold State.memWrite
  cases h : s.translate .store va with
  | ok pa => exact hk _
  | raise e => exact notForbidden_raise e
  | refuse c =>
    rw [State.translate_refuse h]
    exact ⟨nofun⟩

theorem notForbidden_storeAny (v : Dword) : NotForbidden (storeAny s va n v) :=
  notForbidden_withMemWrite va n v fun _ => notForbidden_finish

theorem notForbidden_storeAt (v : Dword) : NotForbidden (storeAt s va n v finish) :=
  notForbidden_whenAligned (notForbidden_storeAny va n v) _ _ _

theorem notForbidden_storeConditional (rt : RegNum) : NotForbidden (storeConditional s rt va n) := by
  refine notForbidden_whenAligned ?_ _ _ _
  split
  · exact notForbidden_withMemWrite va n _ fun _ => notForbidden_finish
  · exact notForbidden_writeBack _ _

end memory

/-! ### COP0 and the floating-point shapes -/

section shapes
variable {s : State} (fs ft fd : RegNum)

theorem notForbidden_binaryS (op : RoundMode → Word → Word → Word) : NotForbidden (binaryS s fs ft fd op) :=
  notForbidden_whenCop1 notForbidden_finish

theorem notForbidden_binaryD (op : RoundMode → Dword → Dword → Dword) : NotForbidden (binaryD s fs ft fd op) :=
  notForbidden_whenCop1 (notForbidden_whenD (notForbidden_whenD (notForbidden_whenD notForbidden_finish _) _) _)

theorem notForbidden_unaryS (op : Word → Word) : NotForbidden (unaryS s fs fd op) := notForbidden_whenCop1 notForbidden_finish

theorem notForbidden_unaryD (op : Dword → Dword) : NotForbidden (unaryD s fs fd op) :=
  notForbidden_whenCop1 (notForbidden_whenD (notForbidden_whenD notForbidden_finish _) _)

theorem notForbidden_convertStoS (op : Word → Word) : NotForbidden (convertStoS s fs fd op) :=
  notForbidden_whenCop1 notForbidden_finish

theorem notForbidden_convertDtoS (op : Dword → Word) : NotForbidden (convertDtoS s fs fd op) :=
  notForbidden_whenCop1 (notForbidden_whenD notForbidden_finish _)

theorem notForbidden_convertStoD (op : Word → Dword) : NotForbidden (convertStoD s fs fd op) :=
  notForbidden_whenCop1 (notForbidden_whenD notForbidden_finish _)

theorem notForbidden_convertDtoD (op : Dword → Dword) : NotForbidden (convertDtoD s fs fd op) :=
  notForbidden_whenCop1 (notForbidden_whenD (notForbidden_whenD notForbidden_finish _) _)

theorem notForbidden_compareWith (cond : BitVec 4) (r : Relation) : NotForbidden (compareWith s cond r) := by
  unfold compareWith
  split
  · exact notForbidden_halt _
  · exact notForbidden_finish

theorem notForbidden_compareS (cond : BitVec 4) : NotForbidden (compareS s cond fs ft) :=
  notForbidden_whenCop1 (notForbidden_compareWith _ _)

theorem notForbidden_compareD (cond : BitVec 4) : NotForbidden (compareD s cond fs ft) :=
  notForbidden_whenCop1 (notForbidden_whenD (notForbidden_whenD (notForbidden_compareWith _ _) _) _)

/-- MTC0 completes or halts, target by target (R362). -/
theorem notForbidden_writeCop0 (rd : RegNum) (v : Word) : NotForbidden (writeCop0 s rd v) := by
  unfold writeCop0
  split
  case h_1 =>
    unfold writeIndex
    split
    · exact notForbidden_halt _
    · exact notForbidden_finish
  case h_13 =>
    unfold writeCause
    split
    · exact notForbidden_finish
    · exact notForbidden_halt _
  all_goals exact ⟨nofun⟩

end shapes

/-! ### The instructions -/

/-- What R624 names begins with the test for a delay slot, and refuses for it nowhere else. -/
theorem exec_of_controlTransfer {i : Instr} (hi : controlTransfer i = true) (s : State) :
    ∃ k, exec i s = whenNotDelaySlot s k ∧ NotForbidden k := by
  cases i
  case j | jal | jr | jalr => exact ⟨_, rfl, notForbidden_next _⟩
  case beq | bne | blez | bgtz | bltz | bgez | bltzal | bgezal => exact ⟨_, rfl, notForbidden_next _⟩
  case beql | bnel | blezl | bgtzl | bltzl | bgezl | bltzall | bgezall => exact ⟨_, rfl, notForbidden_next _⟩
  case bc1f | bc1t | bc1fl | bc1tl => exact ⟨_, rfl, notForbidden_whenCop1 (notForbidden_next _)⟩
  case eret =>
    refine ⟨_, rfl, notForbidden_whenCop0 ?_⟩
    split
    · exact notForbidden_next _
    · exact notForbidden_halt _
  all_goals exact absurd hi Bool.false_ne_true

/-- No other instruction refuses for the delay slot: each by the shape of its meaning. -/
theorem exec_notForbidden {i : Instr} (hi : controlTransfer i = false) (s : State) : NotForbidden (exec i s) := by
  cases i
  case add | addi | sub | dadd | daddi | dsub => exact notForbidden_writeOrOverflow _ _
  case addiu | slti | sltiu | andi | ori | xori | lui | daddiu => exact notForbidden_writeBack _ _
  case addu | subu | and | or | xor | nor | slt | sltu | daddu | dsubu => exact notForbidden_writeBack _ _
  case sll | srl | sra | sllv | srlv | srav => exact notForbidden_writeBack _ _
  case dsll | dsrl | dsra | dsllv | dsrlv | dsrav | dsll32 | dsrl32 | dsra32 => exact notForbidden_writeBack _ _
  case mfhi | mflo => exact notForbidden_writeBack _ _
  case mthi | mtlo | mult | multu | div | divu | dmult | dmultu | ddiv | ddivu => exact notForbidden_finish
  case sync | cache => exact notForbidden_finish
  case syscall | break_ => exact notForbidden_raise _
  case tge | tgeu | tlt | tltu | teq | tne | tgei | tgeiu | tlti | tltiu | teqi | tnei => exact notForbidden_trapIf _
  case lb | lbu | lh | lhu | lw | lwu | ld => exact notForbidden_loadAt _ _ fun _ _ => notForbidden_writeBack _ _
  case lwl => unfold exec execLwl; exact notForbidden_loadAny _ _ fun _ _ => notForbidden_writeBack _ _
  case lwr => unfold exec execLwr; exact notForbidden_loadAny _ _ fun _ _ => notForbidden_writeBack _ _
  case ldl => unfold exec execLdl; exact notForbidden_loadAny _ _ fun _ _ => notForbidden_writeBack _ _
  case ldr => unfold exec execLdr; exact notForbidden_loadAny _ _ fun _ _ => notForbidden_writeBack _ _
  case ll | lld => exact notForbidden_loadAt _ _ fun _ _ => notForbidden_finish
  case sb | sh | sw | sd => exact notForbidden_storeAt _ _ _
  case swl | swr | sdl | sdr => exact notForbidden_storeAny _ _ _
  case sc | scd => exact notForbidden_storeConditional _ _ _
  case mfc0 =>
    refine notForbidden_whenCop0 ?_
    split
    · exact notForbidden_writeBack _ _
    · exact notForbidden_halt _
  case mtc0 => exact notForbidden_whenCop0 (notForbidden_writeCop0 _ _)
  case tlbr | tlbwi | tlbp => exact notForbidden_whenCop0 notForbidden_finish
  case tlbwr =>
    refine notForbidden_whenCop0 ?_
    split
    · exact notForbidden_finish
    · exact ⟨nofun⟩
  case mfc1 => exact notForbidden_whenCop1 (notForbidden_writeBack _ _)
  case dmfc1 => exact notForbidden_whenCop1 (notForbidden_whenD (notForbidden_writeBack _ _) _)
  case cfc1 =>
    refine notForbidden_whenCop1 ?_
    split
    · exact notForbidden_writeBack _ _
    · split
      · exact notForbidden_writeBack _ _
      · exact notForbidden_finish
  case mtc1 => exact notForbidden_whenCop1 notForbidden_finish
  case dmtc1 => exact notForbidden_whenCop1 (notForbidden_whenD notForbidden_finish _)
  case ctc1 =>
    refine notForbidden_whenCop1 ?_
    split
    · exact notForbidden_finish
    · exact notForbidden_finish
  case lwc1 => exact notForbidden_whenCop1 (notForbidden_loadAt _ _ fun _ _ => notForbidden_finish)
  case ldc1 => exact notForbidden_whenCop1 (notForbidden_loadAt _ _ fun _ _ => notForbidden_whenD notForbidden_finish _)
  case swc1 => exact notForbidden_whenCop1 (notForbidden_storeAt _ _ _)
  case sdc1 =>
    exact notForbidden_whenCop1 (notForbidden_whenAligned (notForbidden_whenD (notForbidden_storeAny _ _ _) _) _ _ _)
  case addS | subS | mulS | divS => exact notForbidden_binaryS _ _ _ _
  case addD | subD | mulD | divD => exact notForbidden_binaryD _ _ _ _
  case sqrtS | absS | movS | negS =>
    simp only [exec, execSqrtS, execAbsS, execMovS, execNegS, notForbidden_unaryS]
  case sqrtD | absD | movD | negD =>
    simp only [exec, execSqrtD, execAbsD, execMovD, execNegD, notForbidden_unaryD]
  case roundWS | truncWS | ceilWS | floorWS | cvtSW | cvtWS =>
    simp only [exec, execRoundWS, execTruncWS, execCeilWS, execFloorWS, execCvtSW, execCvtWS, notForbidden_convertStoS]
  case roundWD | truncWD | ceilWD | floorWD | cvtSD | cvtSL | cvtWD =>
    simp only [exec, execRoundWD, execTruncWD, execCeilWD, execFloorWD, execCvtSD, execCvtSL, execCvtWD,
      notForbidden_convertDtoS]
  case roundLS | truncLS | ceilLS | floorLS | cvtDS | cvtDW | cvtLS =>
    simp only [exec, execRoundLS, execTruncLS, execCeilLS, execFloorLS, execCvtDS, execCvtDW, execCvtLS,
      notForbidden_convertStoD]
  case roundLD | truncLD | ceilLD | floorLD | cvtDL | cvtLD =>
    simp only [exec, execRoundLD, execTruncLD, execCeilLD, execFloorLD, execCvtDL, execCvtLD, notForbidden_convertDtoD]
  case cFS | cUnS | cEqS | cUeqS | cOltS | cUltS | cOleS | cUleS => exact notForbidden_compareS _ _ _
  case cSfS | cNgleS | cSeqS | cNglS | cLtS | cNgeS | cLeS | cNgtS => exact notForbidden_compareS _ _ _
  case cFD | cUnD | cEqD | cUeqD | cOltD | cUltD | cOleD | cUleD => exact notForbidden_compareD _ _ _
  case cSfD | cNgleD | cSeqD | cNglD | cLtD | cNgeD | cLeD | cNgtD => exact notForbidden_compareD _ _ _
  all_goals exact absurd hi.symm Bool.false_ne_true

/-- Settles O41: the test for a delay slot is where R624's instructions refuse, and nothing else does. -/
theorem delaySlotForbidsTransfers : Obligations.DelaySlotForbidsTransfers := by
  intro i s
  cases hi : controlTransfer i with
  | false => exact iff_of_false (exec_notForbidden hi s).ne fun h => Bool.false_ne_true h.2
  | true =>
    obtain ⟨k, hExec, hk⟩ := exec_of_controlTransfer hi s
    rw [hExec]
    cases hs : s.ds with
    | false => exact iff_of_false (by rw [whenNotDelaySlot_false hs]; exact hk.ne) fun h => Bool.false_ne_true h.1
    | true => exact iff_of_true (whenNotDelaySlot_true hs k) ⟨rfl, rfl⟩

end Sys2Proof.Machine
end

section
/-! PROOF. The floating-point conversions and compares with CU1 = 1 and valid operands (48_cop1_convert_compare.md): rounding to an
integer over the reals (R451, R452), the view each conversion writes (R450), and the relation of two values (R454). -/

namespace Sys2Proof.Machine

/-! ### Rounding to an integer over the reals (R451) -/

/-- The integer `r` is the real number `x` rounded in the direction `rm` (R451). -/
def RoundsToInt (rm : RoundMode) (x : ℝ) (r : ℤ) : Prop :=
  match rm with
  | .nearest => |x - r| ≤ 1 / 2 ∧ (|x - r| = 1 / 2 → r % 2 = 0)
  | .zero => |(r : ℝ)| ≤ |x| ∧ |x| < |(r : ℝ)| + 1 ∧ 0 ≤ x * r
  | .up => r = ⌈x⌉
  | .down => r = ⌊x⌋

/-- Rounding a magnitude on the natural numbers is rounding to an integer. -/
theorem RoundsOn.roundsToInt {rm : RoundMode} {a : ℝ} {n : ℕ} (ha : 0 ≤ a) (h : RoundsOn (fun n => (n : ℝ)) rm a n) :
    RoundsToInt rm a n := by
  have hn : (0 : ℝ) ≤ n := Nat.cast_nonneg n
  cases rm with
  | nearest =>
    obtain ⟨b, hlo, hhi, ⟨hup, rfl⟩ | ⟨hup, rfl⟩⟩ := h
    · simp only [GoesUp, Nat.cast_add, Nat.cast_one] at hup hhi
      have hDist : |a - ((b + 1 : ℕ) : ℤ)| = b + 1 - a := by
        rw [abs_sub_comm, abs_of_pos] <;> push_cast <;> linarith
      rw [RoundsToInt, hDist]
      rcases hup with hup | ⟨hup, hodd⟩
      · exact ⟨by linarith, fun heq => absurd heq (by linarith)⟩
      · exact ⟨by linarith, fun _ => by omega⟩
    · simp only [GoesUp, Nat.cast_add, Nat.cast_one, not_or, not_and] at hup hhi
      obtain ⟨hle, htie⟩ := hup
      have hDist : |a - (n : ℤ)| = a - n := by rw [Int.cast_natCast, abs_of_nonneg (by linarith)]
      rw [RoundsToInt, hDist]
      refine ⟨by linarith, fun heq => ?_⟩
      have := htie (by linarith)
      omega
  | zero =>
    obtain ⟨hlo, hhi⟩ := h.below (.inl rfl)
    rw [RoundsToInt, Int.cast_natCast, abs_of_nonneg ha, abs_of_nonneg hn]
    exact ⟨hlo, by exact_mod_cast hhi, mul_nonneg ha hn⟩
  | up =>
    refine (Int.ceil_eq_iff.2 ?_).symm
    obtain ⟨b, hlo, hhi, ⟨hup, rfl⟩ | ⟨hup, rfl⟩⟩ := h
    · simp only [GoesUp, Nat.cast_add, Nat.cast_one] at hup hhi
      exact ⟨by push_cast; linarith, by push_cast; linarith⟩
    · simp only [GoesUp, not_lt] at hup
      exact ⟨by push_cast; linarith, by push_cast; linarith⟩
  | down =>
    obtain ⟨hlo, hhi⟩ := h.below (.inr rfl)
    exact (Int.floor_eq_iff.2 ⟨by exact_mod_cast hlo, by exact_mod_cast hhi⟩).symm

/-- A negative number rounds as its magnitude does in the mirrored direction. -/
theorem RoundsToInt.neg {rm : RoundMode} {x : ℝ} {r : ℤ} (h : RoundsToInt (mirror rm) x r) : RoundsToInt rm (-x) (-r) := by
  cases rm with
  | nearest =>
    obtain ⟨hDist, hTie⟩ := h
    have hAbs : |-x - ((-r : ℤ) : ℝ)| = |x - r| := by rw [Int.cast_neg, neg_sub_neg, abs_sub_comm]
    rw [RoundsToInt, hAbs]
    exact ⟨hDist, fun heq => by have := hTie heq; omega⟩
  | zero =>
    obtain ⟨hle, hlt, hSign⟩ := h
    rw [RoundsToInt, Int.cast_neg, abs_neg, abs_neg, neg_mul_neg]
    exact ⟨hle, hlt, hSign⟩
  | up =>
    have h : r = ⌊x⌋ := h
    rw [RoundsToInt, h, Int.ceil_neg]
  | down =>
    have h : r = ⌈x⌉ := h
    rw [RoundsToInt, h, Int.floor_neg]

/-- `roundToInt` rounds the value of its argument (R451). -/
theorem roundsToInt_roundToInt (rm : RoundMode) {neg : Bool} {mag : ℕ} {exp : ℤ} {x : ℝ}
    (hx : x = (if neg then -1 else 1) * ((mag : ℝ) * 2 ^ exp)) : RoundsToInt rm x (roundToInt rm neg mag exp) := by
  have hpos : 0 ≤ (mag : ℝ) * 2 ^ exp := by positivity
  have hMag (rm : RoundMode) : RoundsToInt rm ((mag : ℝ) * 2 ^ exp) (roundShift rm false mag exp) :=
    (roundsOn_roundShift rm (.inl rfl)).roundsToInt hpos
  cases neg with
  | false => simpa [hx, roundToInt] using hMag rm
  | true => simpa [hx, roundToInt, roundShift_mirror] using (hMag (mirror rm)).neg

/-! ### Conversion to an integer (R452) -/

/-- What has no value converts to what the configuration gives. -/
theorem fpToInt_of_no_value {v : FpValue} (h : ∀ x : ℝ, ¬HasValue v x) (w : ℕ) (rm : RoundMode) : fpToInt w rm v = none := by
  cases v with
  | fin neg mag exp => exact absurd ⟨neg, mag, exp, rfl, rfl⟩ (h _)
  | _ => rfl

section conversion
variable {rm : RoundMode} {src : CvtSource} {r : ℤ}

theorem toInt32_of_exact (h : fpToInt 32 rm (sourceValue src) = exactSigned 32 r) :
    (-2 ^ 31 ≤ r ∧ r < 2 ^ 31 → (toInt32 rm src).toInt = r) ∧
      (¬(-2 ^ 31 ≤ r ∧ r < 2 ^ 31) → toInt32 rm src = Config.cvtInvalid32 src rm) := by
  constructor <;> intro hr
  · have hSome : exactSigned 32 r = some (BitVec.ofInt 32 r) := if_pos hr
    rw [toInt32, h, hSome]
    exact BitVec.toInt_ofInt_eq_self (by decide) hr.1 hr.2
  · have hNone : exactSigned 32 r = none := if_neg hr
    rw [toInt32, h, hNone]

theorem toInt64_of_exact (h : fpToInt 64 rm (sourceValue src) = exactSigned 64 r) :
    (-2 ^ 63 ≤ r ∧ r < 2 ^ 63 → (toInt64 rm src).toInt = r) ∧
      (¬(-2 ^ 63 ≤ r ∧ r < 2 ^ 63) → toInt64 rm src = Config.cvtInvalid64 src rm) := by
  constructor <;> intro hr
  · have hSome : exactSigned 64 r = some (BitVec.ofInt 64 r) := if_pos hr
    rw [toInt64, h, hSome]
    exact BitVec.toInt_ofInt_eq_self (by decide) hr.1 hr.2
  · have hNone : exactSigned 64 r = none := if_neg hr
    rw [toInt64, h, hNone]

end conversion

/-- Settles O52: `roundToInt` rounds, and `exactSigned` tests the range of what it gives. -/
theorem conversionToIntegerIsExact : Obligations.ConversionToIntegerIsExact := by
  refine fun rm src => ⟨fun x hx => ?value, fun hNone => ?noValue⟩
  case value =>
    obtain ⟨neg, mag, exp, hv, hx⟩ := hx.exists_fin
    have h32 : fpToInt 32 rm (sourceValue src) = exactSigned 32 (roundToInt rm neg mag exp) := by rw [hv]; rfl
    have h64 : fpToInt 64 rm (sourceValue src) = exactSigned 64 (roundToInt rm neg mag exp) := by rw [hv]; rfl
    refine ⟨_, ?_, (toInt32_of_exact h32).1, (toInt32_of_exact h32).2, (toInt64_of_exact h64).1, (toInt64_of_exact h64).2⟩
    have hRounds := roundsToInt_roundToInt rm hx
    cases rm <;> exact hRounds
  case noValue =>
    constructor
    · rw [toInt32, fpToInt_of_no_value hNone]
    · rw [toInt64, fpToInt_of_no_value hNone]

/-! ### The view each conversion writes (R450, R455 to R480) -/

section conversions
variable {i : Instr} {s : State} {fs fd : RegNum} (hu : s.cu1 = true)
include hu

theorem writesS_of_convertStoS (op : Word → Word) (hi : exec i s = convertStoS s fs fd op) : WritesS i s fd (op (s.readS fs)) :=
  writesS_of_finish (hi.trans (whenCop1_usable hu _))

theorem writesS_of_convertDtoS {op : Dword → Word} (hi : exec i s = convertDtoS s fs fd op) (hfs : s.validD fs = true) :
    WritesS i s fd (op (s.readD fs)) :=
  writesS_of_finish (hi.trans ((whenCop1_usable hu _).trans (whenD_valid hfs _)))

theorem writesD_of_convertStoD {op : Word → Dword} (hi : exec i s = convertStoD s fs fd op) (hfd : s.validD fd = true) :
    WritesD i s fd (op (s.readS fs)) :=
  writesD_of_finish (hi.trans ((whenCop1_usable hu _).trans (whenD_valid hfd _)))

theorem writesD_of_convertDtoD {op : Dword → Dword} (hi : exec i s = convertDtoD s fs fd op) (hfs : s.validD fs = true)
    (hfd : s.validD fd = true) : WritesD i s fd (op (s.readD fs)) :=
  writesD_of_finish (hi.trans ((whenCop1_usable hu _).trans ((whenD_valid hfs _).trans (whenD_valid hfd _))))

end conversions

/-- Settles O51: each conversion by its shape. -/
theorem conversionsComplete : Obligations.ConversionsComplete := by
  intro s fs fd hu
  refine ⟨?roundWS, fun hfs => ?roundWD, fun hfd => ?roundLS, fun hfs hfd => ?roundLD,
    ?truncWS, fun hfs => ?truncWD, fun hfd => ?truncLS, fun hfs hfd => ?truncLD,
    ?ceilWS, fun hfs => ?ceilWD, fun hfd => ?ceilLS, fun hfs hfd => ?ceilLD,
    ?floorWS, fun hfs => ?floorWD, fun hfd => ?floorLS, fun hfs hfd => ?floorLD,
    ?cvtWS, fun hfs => ?cvtWD, fun hfd => ?cvtLS, fun hfs hfd => ?cvtLD,
    ?cvtSW, fun hfs => ⟨?cvtSD, ?cvtSL⟩, fun hfd => ⟨?cvtDS, ?cvtDW⟩, fun hfs hfd => ?cvtDL⟩
  case roundWS => exact writesS_of_convertStoS hu (fun v => toInt32 .nearest (.single v)) rfl
  case roundWD => exact writesS_of_convertDtoS hu (exec_roundWD s fs fd) hfs
  case roundLS => exact writesD_of_convertStoD hu (exec_roundLS s fs fd) hfd
  case roundLD => exact writesD_of_convertDtoD hu (exec_roundLD s fs fd) hfs hfd
  case truncWS => exact writesS_of_convertStoS hu (fun v => toInt32 .zero (.single v)) rfl
  case truncWD => exact writesS_of_convertDtoS hu (exec_truncWD s fs fd) hfs
  case truncLS => exact writesD_of_convertStoD hu (exec_truncLS s fs fd) hfd
  case truncLD => exact writesD_of_convertDtoD hu (exec_truncLD s fs fd) hfs hfd
  case ceilWS => exact writesS_of_convertStoS hu (fun v => toInt32 .up (.single v)) rfl
  case ceilWD => exact writesS_of_convertDtoS hu (exec_ceilWD s fs fd) hfs
  case ceilLS => exact writesD_of_convertStoD hu (exec_ceilLS s fs fd) hfd
  case ceilLD => exact writesD_of_convertDtoD hu (exec_ceilLD s fs fd) hfs hfd
  case floorWS => exact writesS_of_convertStoS hu (fun v => toInt32 .down (.single v)) rfl
  case floorWD => exact writesS_of_convertDtoS hu (exec_floorWD s fs fd) hfs
  case floorLS => exact writesD_of_convertStoD hu (exec_floorLS s fs fd) hfd
  case floorLD => exact writesD_of_convertDtoD hu (exec_floorLD s fs fd) hfs hfd
  case cvtWS => exact writesS_of_convertStoS hu (fun v => toInt32 s.roundMode (.single v)) rfl
  case cvtWD => exact writesS_of_convertDtoS hu (exec_cvtWD s fs fd) hfs
  case cvtLS => exact writesD_of_convertStoD hu (exec_cvtLS s fs fd) hfd
  case cvtLD => exact writesD_of_convertDtoD hu (exec_cvtLD s fs fd) hfs hfd
  case cvtSW => exact writesS_of_convertStoS hu (fun v => fromInt32 s.roundMode v.toInt) rfl
  case cvtSD => exact writesS_of_convertDtoS hu (exec_cvtSD s fs fd) hfs
  case cvtSL => exact writesS_of_convertDtoS hu (exec_cvtSL s fs fd) hfs
  case cvtDS => exact writesD_of_convertStoD hu (exec_cvtDS s fs fd) hfd
  case cvtDW => exact writesD_of_convertStoD hu (exec_cvtDW s fs fd) hfd
  case cvtDL => exact writesD_of_convertDtoD hu (exec_cvtDL s fs fd) hfs hfd

/-! ### The relation of two values (R454) -/

section relation
variable {a b : FpValue} {x y : ℝ}

/-- Finite values compare as the real numbers they stand for. -/
theorem fpRelation_of_values (ha : HasValue a x) (hb : HasValue b y) :
    fpRelation a b = if x < y then .less else if x = y then .equal else .greater := by
  obtain ⟨p, m, e, rfl, rfl⟩ := ha.exists_fin
  obtain ⟨q, n, e', rfl, rfl⟩ := hb.exists_fin
  have hpos : (0 : ℝ) < 2 ^ min e e' := by positivity
  rw [fpRelation, ← signedAt_mul p m (min_le_left e e'), ← signedAt_mul q n (min_le_right e e')]
  simp only [mul_lt_mul_iff_left₀ hpos, mul_left_inj' hpos.ne', Int.cast_lt, Int.cast_inj]

theorem fpRelation_nan (h : a = .nan ∨ b = .nan) : fpRelation a b = .unordered := by
  rcases h with rfl | rfl
  · rfl
  · cases a <;> rfl

theorem fpRelation_inf_left {p : Bool} (ha : a = .inf p) (hb : HasValue b y) : fpRelation a b = if p then .less else .greater := by
  obtain ⟨q, n, e, rfl, -⟩ := hb.exists_fin
  rw [ha]
  rfl

theorem fpRelation_inf_right {p : Bool} (ha : HasValue a x) (hb : b = .inf p) : fpRelation a b = if p then .greater else .less := by
  obtain ⟨q, n, e, rfl, -⟩ := ha.exists_fin
  rw [hb]
  rfl

theorem fpRelation_inf_inf {p q : Bool} (ha : a = .inf p) (hb : b = .inf q) :
    fpRelation a b = if p = q then .equal else if p then .less else .greater := by
  rw [ha, hb]
  rfl

end relation

/-! ### The compare law (R454) -/

section compares
variable {i : Instr} {s : State} {cond : BitVec 4} {a b : FpValue} {nan : Prop}

/-- What an ordered pair writes. -/
theorem writesCondition_of_ordered {c : Bool} {r : Relation} (hi : exec i s = compareWith s cond (fpRelation a b))
    (hr : fpRelation a b = r) (hOrdered : r ≠ .unordered) (hc : conditionHolds cond r = c) : WritesCondition i s c := by
  subst hc hr
  refine writesCondition_of_finish (hi.trans (if_neg ?_))
  simp [hOrdered]

/-- A signalling compare of an unordered pair halts. -/
theorem halts_of_unordered (hi : exec i s = compareWith s cond (fpRelation a b)) (hr : fpRelation a b = .unordered)
    (h3 : cond.getLsbD 3 = true) : exec i s = .fault (.halt .fpInvalidOperation) := by
  rw [hi, hr, compareWith, h3]
  rfl

/-- A quiet compare of an unordered pair writes bit 0 of its code. -/
theorem writesCondition_of_unordered (hi : exec i s = compareWith s cond (fpRelation a b)) (hr : fpRelation a b = .unordered)
    (h3 : cond.getLsbD 3 = false) : WritesCondition i s (cond.getLsbD 0) := by
  refine writesCondition_of_finish (hi.trans ?_)
  rw [hr, compareWith, h3]
  rfl

/-- The compare law for two values: finite ones, a NaN, an infinity on either side, and two infinities (R454). -/
def CompareLaw (i : Instr) (s : State) (cond : BitVec 4) (a b : FpValue) (nan : Prop) : Prop :=
  (∀ x y : ℝ, HasValue a x → HasValue b y →
    WritesCondition i s ((decide (x < y) && cond.getLsbD 2) || (decide (x = y) && cond.getLsbD 1))) ∧
  (nan → cond.getLsbD 3 = true → exec i s = .fault (.halt .fpInvalidOperation)) ∧
  (nan → cond.getLsbD 3 = false → WritesCondition i s (cond.getLsbD 0)) ∧
  (∀ (p : Bool) (y : ℝ), a = .inf p → HasValue b y → WritesCondition i s (p && cond.getLsbD 2)) ∧
  (∀ (p : Bool) (x : ℝ), HasValue a x → b = .inf p → WritesCondition i s (!p && cond.getLsbD 2)) ∧
  (∀ p q : Bool, a = .inf p → b = .inf q →
    WritesCondition i s ((p && !q && cond.getLsbD 2) || (p == q && cond.getLsbD 1)))

theorem compareLaw (hi : exec i s = compareWith s cond (fpRelation a b)) (hNaN : nan → a = .nan ∨ b = .nan) :
    CompareLaw i s cond a b nan := by
  refine ⟨fun x y hx hy => ?finite, fun h => halts_of_unordered hi (fpRelation_nan (hNaN h)),
    fun h => writesCondition_of_unordered hi (fpRelation_nan (hNaN h)), fun p y hp hy => ?infLeft, fun p x hx hp => ?infRight,
    fun p q hp hq => ?infBoth⟩
  case finite =>
    rcases lt_trichotomy x y with h | h | h
    · have hr : fpRelation a b = .less := (fpRelation_of_values hx hy).trans (if_pos h)
      exact writesCondition_of_ordered hi hr nofun (by simp [conditionHolds, h, h.ne])
    · have hr : fpRelation a b = .equal := (fpRelation_of_values hx hy).trans (by rw [if_neg h.not_lt, if_pos h])
      exact writesCondition_of_ordered hi hr nofun (by simp [conditionHolds, h])
    · have hr : fpRelation a b = .greater :=
        (fpRelation_of_values hx hy).trans (by rw [if_neg h.not_gt, if_neg h.ne'])
      exact writesCondition_of_ordered hi hr nofun (by simp [conditionHolds, h.not_gt, h.ne'])
  case infLeft =>
    have hr := fpRelation_inf_left hp hy
    cases p <;> exact writesCondition_of_ordered hi hr nofun rfl
  case infRight =>
    have hr := fpRelation_inf_right hx hp
    cases p <;> exact writesCondition_of_ordered hi hr nofun rfl
  case infBoth =>
    have hr := fpRelation_inf_inf hp hq
    cases p <;> cases q <;> exact writesCondition_of_ordered hi hr nofun (by simp [conditionHolds])

end compares

/-- The sixteen single-precision compares are `compareS` with their code (R454). -/
theorem exec_compareSingle (cond : BitVec 4) (fs ft : RegNum) (s : State) :
    exec (compareSingle cond fs ft) s = compareS s cond fs ft := by
  cases cond with
  | ofFin n => fin_cases n <;> rfl

/-- Settles O53: both formats are `compareWith` over the relation of their operands' values. -/
theorem comparesWriteTheCondition : Obligations.ComparesWriteTheCondition := by
  intro s cond fs ft hu holds
  have hSingle := (exec_compareSingle cond fs ft s).trans (whenCop1_usable hu _)
  have hDouble (hfs : s.validD fs = true) (hft : s.validD ft = true) :=
    (exec_compareDouble cond fs ft s).trans ((whenCop1_usable hu _).trans ((whenD_valid hfs _).trans (whenD_valid hft _)))
  exact ⟨compareLaw hSingle (Or.imp IsNaN32.value IsNaN32.value),
    fun hfs hft => compareLaw (hDouble hfs hft) (Or.imp IsNaN64.value IsNaN64.value)⟩

end Sys2Proof.Machine
end
